-- ==== Sys2Proof/Word.lean ====
section
/-! DEFINITION. The words of the block: the byte, the bus address, the pixel, the packet, the header region, and the
operation words of the six formats (30_encoding.md rule R60, rule R75). All quantities are unsigned (00_scope.md
rule R8). -/

namespace Sys2Proof

/-- One byte of the 8-bit data path (20_memory.md rule R40). -/
abbrev Byte := BitVec 8

/-- A bus address, 16 bits (20_memory.md rule R40). -/
abbrev Addr := BitVec 16

/-- One RGB24 pixel, red in bits 23:16, green in 15:8, blue in 7:0 (10_state.md rule R31). -/
abbrev Pixel := BitVec 24

/-- A packet: a fixed 16-byte payload, opaque to the block (30_encoding.md rule R65). -/
abbrev Packet := Vector Byte 16

/-- The 84 bytes of cartridge header data (10_state.md rule R32). -/
abbrev Header := Vector Byte 84

/-- The 320-byte planar row buffer (10_state.md rule R24). -/
abbrev RowBuffer := Vector Byte 320

/-- The six operation formats (30_encoding.md rule R60). -/
inductive Format where
  | pin | rd | wr | row | ctl | core
  deriving DecidableEq, Repr

/-- How many bits an operation word of a format has (30_encoding.md rule R75, last paragraph). -/
def Format.width : Format → Nat
  | .pin => 2
  | .rd => 16
  | .wr => 24
  | .row => 5
  | .ctl => 1
  | .core => 1

/-- One operation word: a format and exactly its bits (30_encoding.md rule R60 and rule R75).
`pin`: `p15 ++ p14`; `rd`: the address; `wr`: `addr ++ data`; `row`: the row index; `ctl` and `core`: the one-bit
codes of the opcode table. Every such word is an operation: there is no illegal one (rule R76). -/
inductive OpWord where
  | pin (code : BitVec 2)
  | rd (addr : BitVec 16)
  | wr (word : BitVec 24)
  | row (index : BitVec 5)
  | ctl (code : BitVec 1)
  | core (code : BitVec 1)
  deriving DecidableEq, Repr

/-- The format of an operation word. -/
def OpWord.fmt : OpWord → Format
  | .pin _ => .pin
  | .rd _ => .rd
  | .wr _ => .wr
  | .row _ => .row
  | .ctl _ => .ctl
  | .core _ => .core

/-- The bits of an operation word as a number, bit 0 the least significant, as the opcode table numbers them. -/
def OpWord.bits : OpWord → Nat
  | .pin c => c.toNat
  | .rd a => a.toNat
  | .wr w => w.toNat
  | .row r => r.toNat
  | .ctl c => c.toNat
  | .core c => c.toNat

end Sys2Proof
end

