-- ==== Sys2Proof/Syntax.lean ====
section
/-! DEFINITION. The operations of the block, one constructor per row of the opcode table, in its order
(30_encoding.md rule R75). The block fetches no instructions: an `Instr` is one externally driven operation, and its
operands are what the operation's word carries beyond the bits that select the row. -/

namespace Sys2Proof

/-- The 18 operations (30_encoding.md rule R75; spec/opcode_table.json). -/
inductive Instr where
  /-- `PIN.PULSE`: both lines presented low (rule R61, code 00; rule R91). -/
  | pinPulse
  /-- `PIN.ZERO`: P15 high, P14 low: a data edge carrying 0, or the commit edge (code 10; rule R100). -/
  | pinZero
  /-- `PIN.ONE`: P15 low, P14 high: a data edge carrying 1 (code 01; rule R101). -/
  | pinOne
  /-- `PIN.IDLE`: both lines presented high (code 11; rule R93, rule R126). -/
  | pinIdle
  /-- `RD.LY`: read of 0x6000, the line counter (rule R156). -/
  | rdLy
  /-- `RD.STATUS`: read of 0x6002, packet-ready and pop (rule R157). -/
  | rdStatus
  /-- `RD.CTRL`: read of 0x6003, the control register (rule R159). -/
  | rdCtrl
  /-- `RD.PKT`: read of 0x7000 to 0x700F, the latched packet window; `idx = addr[3:0]` (rule R158). -/
  | rdPkt (idx : BitVec 4)
  /-- `RD.VRAM`: read of 0x7800, the row-buffer data port (rule R160). -/
  | rdVram
  /-- `RD.OTHER`: read of any address no other `RD` row matches (rule R162). -/
  | rdOther (addr : BitVec 16)
  /-- `WR.CTRL`: write of 0x6003, the control register (rule R163). -/
  | wrCtrl (data : BitVec 8)
  /-- `WR.JOY`: write of 0x6004 to 0x6007, a joypad register; `slot = addr[1:0]` (rule R164). -/
  | wrJoy (slot : BitVec 2) (data : BitVec 8)
  /-- `WR.OTHER`: write of any address no other `WR` row matches (rule R166). -/
  | wrOther (addr : BitVec 16) (data : BitVec 8)
  /-- `ROWSEL`: row select, 5-bit row index (rule R141). -/
  | rowsel (row : BitVec 5)
  /-- `RESET`: the facade's reset (rule R167). -/
  | reset
  /-- `POWER`: the facade's power-on (rule R168). -/
  | power
  /-- `JOYPOLL`: the embedded core's input poll (rule R130). -/
  | joypoll
  /-- `RUN`: one run call of the facade (rule R169). -/
  | run
  deriving DecidableEq, Repr

end Sys2Proof
end

