-- ==== Sys2Proof/WellFormed.lean ====
section
/-! DEFINITION. Well-formed operations. `RD.OTHER` and `WR.OTHER` are the rows with mask 0 and lowest priority: their
address is one that no other row of their format matches (30_encoding.md rule R66, rule R67). Every other operand
may take every value of its field. -/

namespace Sys2Proof

/-- The addresses that a row of the `RD` format other than `RD.OTHER` matches (30_encoding.md rule R66). -/
def readRegister (a : Addr) : Bool :=
  a == 0x6000#16 || a == 0x6002#16 || a == 0x6003#16 || a &&& 0xFFF0#16 == 0x7000#16 || a == 0x7800#16

/-- The addresses that a row of the `WR` format other than `WR.OTHER` matches (30_encoding.md rule R67). -/
def writeRegister (a : Addr) : Bool :=
  a == 0x6003#16 || a &&& 0xFFFC#16 == 0x6004#16

/-- An operation the encodings of the spec can carry, in the row that carries it. -/
def Instr.wf : Instr → Bool
  | .pinPulse => true
  | .pinZero => true
  | .pinOne => true
  | .pinIdle => true
  | .rdLy => true
  | .rdStatus => true
  | .rdCtrl => true
  | .rdPkt _ => true
  | .rdVram => true
  | .rdOther a => !readRegister a
  | .wrCtrl _ => true
  | .wrJoy _ _ => true
  | .wrOther a _ => !writeRegister a
  | .rowsel _ => true
  | .reset => true
  | .power => true
  | .joypoll => true
  | .run => true

end Sys2Proof
end

