-- ==== Sys2Proof/Decode.lean ====
section
/-! DEFINITION. Decoding and encoding of operation words (30_encoding.md rule R61, rule R66, rule R67, rule R70,
rule R75), and the opcode table as data. `decode` is total: every word of a format is an operation (rule R76).
Numbers that are no word of a format are rejected by name (`DecodeError`). -/

namespace Sys2Proof

/-- Why a number is rejected before decoding. -/
inductive DecodeError where
  /-- the number has bits above the format's width -/
  | strayBits (fmt : Format)
  /-- no format has words of so many bits -/
  | noSuchWidth (nbits : Nat)
  deriving DecidableEq, Repr

/-- The word of a format whose bits are `w`; rejected by name if `w` has bits above the format's width. -/
def OpWord.ofNat (fmt : Format) (w : Nat) : Except DecodeError OpWord :=
  if w < 2 ^ fmt.width then
    match fmt with
    | .pin => .ok (.pin (BitVec.ofNat 2 w))
    | .rd => .ok (.rd (BitVec.ofNat 16 w))
    | .wr => .ok (.wr (BitVec.ofNat 24 w))
    | .row => .ok (.row (BitVec.ofNat 5 w))
    | .ctl => .ok (.ctl (BitVec.ofNat 1 w))
    | .core => .ok (.core (BitVec.ofNat 1 w))
  else .error (.strayBits fmt)

/-- The `PIN` format: `p15` in bit 1, `p14` in bit 0 (30_encoding.md rule R61). -/
def decodePin (c : BitVec 2) : Instr :=
  if c = 0b00#2 then .pinPulse
  else if c = 0b10#2 then .pinZero
  else if c = 0b01#2 then .pinOne
  else .pinIdle

/-- The `RD` format, compared on all 16 address bits (30_encoding.md rule R66; 20_memory.md rule R42). -/
def decodeRead (a : Addr) : Instr :=
  if a = 0x6000#16 then .rdLy
  else if a = 0x6002#16 then .rdStatus
  else if a = 0x6003#16 then .rdCtrl
  else if a &&& 0xFFF0#16 = 0x7000#16 then .rdPkt (a.extractLsb' 0 4)
  else if a = 0x7800#16 then .rdVram
  else .rdOther a

/-- The `WR` format after its address and data are taken apart (30_encoding.md rule R67). -/
def decodeWriteAt (a : Addr) (d : Byte) : Instr :=
  if a = 0x6003#16 then .wrCtrl d
  else if a &&& 0xFFFC#16 = 0x6004#16 then .wrJoy (a.extractLsb' 0 2) d
  else .wrOther a d

/-- The `WR` format: address in bits 23:8, data in bits 7:0 (30_encoding.md rule R75). -/
def decodeWrite (w : BitVec 24) : Instr :=
  decodeWriteAt (w.extractLsb' 8 16) (w.extractLsb' 0 8)

/-- The operation an operation word stands for. -/
def decode : OpWord → Instr
  | .pin c => decodePin c
  | .rd a => decodeRead a
  | .wr w => decodeWrite w
  | .row r => .rowsel r
  | .ctl c => if c = 0#1 then .reset else .power
  | .core c => if c = 0#1 then .joypoll else .run

/-- Decoding from a number: the operation, or the name of what is wrong with the number. -/
def decodeBits (fmt : Format) (w : Nat) : Except DecodeError Instr :=
  (OpWord.ofNat fmt w).map decode

/-- The word of an operation, written from the same tables (30_encoding.md rule R61, rule R66, rule R67, rule R75). -/
def encode : Instr → OpWord
  | .pinPulse => .pin 0b00#2
  | .pinZero => .pin 0b10#2
  | .pinOne => .pin 0b01#2
  | .pinIdle => .pin 0b11#2
  | .rdLy => .rd 0x6000#16
  | .rdStatus => .rd 0x6002#16
  | .rdCtrl => .rd 0x6003#16
  | .rdPkt idx => .rd (0x700#12 ++ idx)
  | .rdVram => .rd 0x7800#16
  | .rdOther a => .rd a
  | .wrCtrl d => .wr (0x6003#16 ++ d)
  | .wrJoy slot d => .wr ((0x1801#14 ++ slot) ++ d)
  | .wrOther a d => .wr (a ++ d)
  | .rowsel r => .row r
  | .reset => .ctl 0#1
  | .power => .ctl 1#1
  | .joypoll => .core 0#1
  | .run => .core 1#1

/-- One row of the opcode table: a word of format `fmt` belongs to it when its bits under `mask` are `pat`. -/
structure TableRow where
  mnemonic : String
  fmt : Format
  pat : Nat
  mask : Nat
  deriving DecidableEq, Repr

/-- The row of the opcode table (spec/opcode_table.json) that an operation stands for. -/
def rowOf : Instr → TableRow
  | .pinPulse => ⟨"PIN.PULSE", .pin, 0x0, 0x3⟩
  | .pinZero => ⟨"PIN.ZERO", .pin, 0x2, 0x3⟩
  | .pinOne => ⟨"PIN.ONE", .pin, 0x1, 0x3⟩
  | .pinIdle => ⟨"PIN.IDLE", .pin, 0x3, 0x3⟩
  | .rdLy => ⟨"RD.LY", .rd, 0x6000, 0xFFFF⟩
  | .rdStatus => ⟨"RD.STATUS", .rd, 0x6002, 0xFFFF⟩
  | .rdCtrl => ⟨"RD.CTRL", .rd, 0x6003, 0xFFFF⟩
  | .rdPkt _ => ⟨"RD.PKT", .rd, 0x7000, 0xFFF0⟩
  | .rdVram => ⟨"RD.VRAM", .rd, 0x7800, 0xFFFF⟩
  | .rdOther _ => ⟨"RD.OTHER", .rd, 0x0000, 0x0000⟩
  | .wrCtrl _ => ⟨"WR.CTRL", .wr, 0x600300, 0xFFFF00⟩
  | .wrJoy _ _ => ⟨"WR.JOY", .wr, 0x600400, 0xFFFC00⟩
  | .wrOther _ _ => ⟨"WR.OTHER", .wr, 0x000000, 0x000000⟩
  | .rowsel _ => ⟨"ROWSEL", .row, 0x00, 0x00⟩
  | .reset => ⟨"RESET", .ctl, 0x0, 0x1⟩
  | .power => ⟨"POWER", .ctl, 0x1, 0x1⟩
  | .joypoll => ⟨"JOYPOLL", .core, 0x0, 0x1⟩
  | .run => ⟨"RUN", .core, 0x1, 0x1⟩

/-- The 18 rows in the table's order. -/
def opcodeTable : List TableRow :=
  [rowOf .pinPulse, rowOf .pinZero, rowOf .pinOne, rowOf .pinIdle] ++
  [rowOf .rdLy, rowOf .rdStatus, rowOf .rdCtrl, rowOf (.rdPkt 0), rowOf .rdVram, rowOf (.rdOther 0)] ++
  [rowOf (.wrCtrl 0), rowOf (.wrJoy 0 0), rowOf (.wrOther 0 0)] ++
  [rowOf (.rowsel 0), rowOf .reset, rowOf .power, rowOf .joypoll, rowOf .run]

/-- A row matches a word of its own format whose bits under the row's mask are the row's pattern. -/
def TableRow.matchesWord (r : TableRow) (w : OpWord) : Bool :=
  r.fmt == w.fmt && w.bits &&& r.mask == r.pat

/-- The format whose word a table word of `nbits` bits is, the format itself not being part of the table's word.
24 bits: `WR`. 16 bits: `RD`. A whole byte may be a word of four formats; it is read as a `PIN` word where it is one
(0 to 3), else as a `ROW` word (notes/assumptions/7.md). The table's own widths are taken too: 5 bits `ROW`, 2 bits
`PIN`, 1 bit `CTL`. -/
def tableFormat (nbits w : Nat) : Except DecodeError Format :=
  if nbits = 24 then .ok .wr
  else if nbits = 16 then .ok .rd
  else if nbits = 8 then .ok (if w < 4 then .pin else .row)
  else if nbits = 5 then .ok .row
  else if nbits = 2 then .ok .pin
  else if nbits = 1 then .ok .ctl
  else .error (.noSuchWidth nbits)

/-- The operation word of a table word of `nbits` bits, or the name of what is wrong with it. -/
def tableWord (nbits w : Nat) : Except DecodeError OpWord :=
  match tableFormat nbits w with
  | .ok fmt => OpWord.ofNat fmt w
  | .error e => .error e

/-- The operation the decoder reads from a word of the opcode table, `none` where it is rejected. -/
def decodeTableWord (nbits w : Nat) : Option Instr :=
  match tableWord nbits w with
  | .ok op => some (decode op)
  | .error _ => none

end Sys2Proof
end

