-- ==== Sys2Proof/Config.lean ====
section
/-! DEFINITION. What the spec leaves open (00_scope.md rule R5): the three OPEN parameters, and the drawn pixels of the
rows outside the frame. Each is a constant with no body, so that a claim about the model holds whatever its value is. -/

namespace Sys2Proof.Config

/-- The three values `JOY_RELEASE_PATTERN` may have, named by their levels `p15 p14`; it is never (1,1)
(42_joypad_mux.md rule R127). -/
inductive JoyRelease where
  | low_low    -- (0,0), the literal reading "bitwise complement of both-high"
  | low_high   -- (0,1), the spec's recommended default
  | high_low   -- (1,0)
  deriving DecidableEq, Repr, Inhabited

/-- The two values of `CTRL_READBACK` (44_bus_registers.md rule R159). -/
inductive CtrlReadback where
  | raw    -- a read of 0x6003 returns the byte last written; the spec's recommended default
  | zero   -- a read of 0x6003 returns 0x00
  deriving DecidableEq, Repr, Inhabited

/-- OPEN parameter `JOY_RELEASE_PATTERN` (42_joypad_mux.md rule R127, decision D3): the pin pattern that releases
`joy_lock`. A free value (notes/assumptions/1.md). -/
opaque joyRelease : JoyRelease

/-- OPEN parameter `CTRL_READBACK` (44_bus_registers.md rule R159, decision D5): what a read of 0x6003 returns.
A free value (notes/assumptions/2.md). -/
opaque ctrlReadback : CtrlReadback

/-- OPEN parameter `QUANT` (43_renderer.md rule R143, decision D13) away from its two fixed points; the fixed points
white and black are added by `Machine.quant`. A free value (notes/assumptions/3.md). -/
opaque quantElsewhere : Pixel → BitVec 2

/-- The `n`-th drawn pixel: the pixels of rows 18 and 19, which lie outside the frame, are "any 24-bit value, per
pixel" (43_renderer.md rule R141). A free value, applied to the counter `State.draws` (notes/assumptions/4.md). -/
opaque drawnPixel : Nat → Pixel

end Sys2Proof.Config
end

