-- ==== Sys2Proof/Machine/Params.lean ====
section
/-! DEFINITION. The parameters of 00_scope.md rule R5 as the machine uses them: the values the spec fixes, and the
OPEN ones taken from Config. -/

namespace Sys2Proof.Machine

/-- `QUEUE_CAPACITY` (rule R5; 10_state.md rule R18). -/
abbrev queueCapacity : Nat := 64

/-- `FRAME_HEIGHT`: scanlines of the embedded core's frame (rule R5). -/
abbrev frameHeight : Nat := 144

/-- `STRIP_HEIGHT`: scanlines of one row (rule R5). -/
abbrev stripHeight : Nat := 8

/-- Row indices at or above this one are refused (43_renderer.md rule R141; decision D15). -/
abbrev rowLimit : Nat := 20

/-- `JOY_RESET` (rule R5; decision D7): no button pressed, the registers being active-low. -/
def joyReset : Byte := 0xFF#8

/-- `STATUS_TRUE` (rule R5; 30_encoding.md rule R69; decision D6). -/
def statusTrue : Byte := 0x01#8

/-- `BOOT_CMD_BASE` (rule R5; 30_encoding.md rule R73; decision D16). -/
def bootCmdBase : Byte := 0xF1#8

/-- `BOOT_CMD_STEP` (rule R5; 30_encoding.md rule R73; decision D16). -/
def bootCmdStep : Byte := 2#8

/-- `JOY_RELEASE_PATTERN` as the levels `(p15, p14)` (42_joypad_mux.md rule R127). -/
def releasePattern : Bool × Bool :=
  match Config.joyRelease with
  | .low_low => (false, false)
  | .low_high => (false, true)
  | .high_low => (true, false)

/-- What a read of 0x6003 returns when the control register holds `ctrl` (44_bus_registers.md rule R159). -/
def ctrlReadValue (ctrl : Byte) : Byte :=
  match Config.ctrlReadback with
  | .raw => ctrl
  | .zero => 0x00#8

/-- `QUANT`: any total function with `QUANT(0xFFFFFF) = 3` and `QUANT(0x000000) = 0` (rule R5; 43_renderer.md
rule R143). -/
def quant (p : Pixel) : BitVec 2 :=
  if p = 0xFFFFFF#24 then 3#2
  else if p = 0x000000#24 then 0#2
  else Config.quantElsewhere p

end Sys2Proof.Machine
end

