-- ==== Sys2Proof/Machine/State.lean ====
section
/-! DEFINITION. The state of the block (10_state.md rule R10), its reset value (rule R39), and what stands beside it in
the model: the external inputs, the operations the environment presents, the outputs of the last operation, and the
count of drawn pixels. The block has no program counter (rule R36) and no memory that a bus address reaches beyond
its registers (20_memory.md rule R41, rule R44). -/

namespace Sys2Proof.Machine

/-- The embedded core's framebuffer, an external input (10_state.md rule R31): the pixel of column `x` and scanline
`y` is the first entry of `cells` under the key `160 * y + x`, and `background` where there is none. -/
structure Frame where
  background : Pixel
  cells : List (Nat × Pixel)
  deriving DecidableEq, Repr

/-- The external inputs sampled at one step (10_state.md rule R30 to rule R32; 00_scope.md rule R6). -/
structure Inputs where
  /-- the embedded core's scanline counter (rule R30) -/
  ly : Byte
  /-- the embedded core's framebuffer (rule R31) -/
  fb : Frame
  /-- the 84 bytes of cartridge header data (rule R32) -/
  hdr : Header
  deriving DecidableEq, Repr

/-- The outputs of one operation: its result (30_encoding.md rule R60) and the one-shot requests it raises
(10_state.md rule R35). `enable_out` and `joy_out` are functions of the state: `State.enableOut`, `State.joyOut`. -/
structure Output where
  /-- the byte a bus read returns -/
  data : Option Byte
  /-- the pair (`joy_id`, `joy_out`) a `JOYPOLL` returns -/
  poll : Option (BitVec 2 × Byte)
  /-- `core_reset` raised -/
  coreReset : Bool
  /-- `core_load` raised -/
  coreLoad : Bool
  deriving DecidableEq, Repr

/-- No result and no request. -/
def Output.silent : Output := { data := none, poll := none, coreReset := false, coreLoad := false }

/-- The result of a bus read. -/
def Output.byte (d : Byte) : Output := { Output.silent with data := some d }

/-- One operation as the environment presents it: its word, and the external inputs at that step. -/
structure Presentation where
  op : OpWord
  inputs : Inputs
  deriving DecidableEq, Repr

/-- The state of the block, and the model's own fields. -/
structure State where
  /-- `pulse_lock`: Idle-locked (rule R11) -/
  pulseLock : Bool
  /-- `strobe_lock`: no data edge is accepted before both-high (rule R12) -/
  strobeLock : Bool
  /-- `packet_lock`: a full packet is assembled (rule R13) -/
  packetLock : Bool
  /-- `bit_offset`, 3 bits (rule R14) -/
  bitOffset : Fin 8
  /-- `byte_offset`, 4 bits (rule R15) -/
  byteOffset : Fin 16
  /-- `byte_acc`, 8 bits (rule R16) -/
  byteAcc : Byte
  /-- `pkt_acc[0..15]` (rule R17) -/
  pktAcc : Packet
  /-- `queue`, the oldest packet first; `q_count` is its length (rule R18) -/
  queue : List Packet
  /-- `ctrl`, 8 bits, the byte last written to 0x6003 (rule R19) -/
  ctrl : Byte
  /-- `mlt_mode`, 2 bits, the normalised multiplayer mode (rule R20) -/
  mltMode : BitVec 2
  /-- `joy[0..3]` (rule R22) -/
  joy : Vector Byte 4
  /-- `pkt_window[0..15]` (rule R23) -/
  pktWindow : Packet
  /-- `vram_cursor`, range 0 to 319 (rule R25) -/
  vramCursor : Fin 320
  /-- `vram_row`, 5 bits (rule R26) -/
  vramRow : BitVec 5
  /-- `joy_id`, 2 bits (rule R27) -/
  joyId : BitVec 2
  /-- `joy_lock` (rule R28) -/
  joyLock : Bool
  /-- THE MODEL'S OWN: the external inputs sampled at the current step -/
  inputs : Inputs
  /-- THE MODEL'S OWN: the operations the environment presents, in its order, the next one first -/
  pending : List Presentation
  /-- THE MODEL'S OWN: the outputs of the last operation executed -/
  out : Output
  /-- THE MODEL'S OWN: how many pixels have been drawn from `Config.drawnPixel` -/
  draws : Nat
  /-- `vram[0..319]` (rule R24); the spec's own, last so that comparing two states looks at it last -/
  vram : RowBuffer
  deriving DecidableEq, Repr

/-- The reasons a step can stop with a fault: none. The block raises no exception and has no cause codes
(60_exceptions.md rule R180), so the type has no constructor and no step of the model faults. -/
inductive Fault where
  deriving DecidableEq, Repr

/-- The reasons the model gives an operation no meaning. -/
inductive Refusal where
  /-- Raised by an arm of `exec` whose operation has no meaning yet. Safe: the model stops. -/
  | notModelled (mnemonic : String)
  /-- Raised by `ROWSEL` with a row of 20 or more, which the spec itself refuses (43_renderer.md rule R141). Safe: the
  model stops where nothing is said of the hardware. -/
  | rowOutOfRange (row : BitVec 5)
  deriving DecidableEq, Repr

/-- The inputs that `State.reset` holds before any operation has sampled them; no operation reads them
(notes/assumptions/6.md). -/
def Inputs.zero : Inputs :=
  { ly := 0x00#8, fb := { background := 0x000000#24, cells := [] }, hdr := Vector.replicate 84 0x00#8 }

/-- The state after a successful `POWER` or `RESET` (10_state.md rule R39; 70_reset_and_hazards.md rule R201,
rule R203), with nothing presented yet. -/
def State.reset : State where
  pulseLock := true
  strobeLock := false
  packetLock := false
  bitOffset := 0
  byteOffset := 0
  byteAcc := 0x00#8
  pktAcc := Vector.replicate 16 0x00#8
  queue := []
  ctrl := 0x00#8
  mltMode := 0#2
  joy := Vector.replicate 4 joyReset
  pktWindow := Vector.replicate 16 0x00#8
  vram := Vector.replicate 320 0x00#8
  vramCursor := 0
  vramRow := 0#5
  joyId := 0#2
  joyLock := false
  inputs := Inputs.zero
  pending := []
  out := Output.silent
  draws := 0

end Sys2Proof.Machine
end

