-- ==== Sys2Proof/Machine/Operands.lean ====
section
/-! DEFINITION. Operand assembly and the values the operations compute (30_encoding.md rule R74): control-write fields,
the mode and its slot count, the status byte, boot packets, pixels, colour indices, plane bytes, and the outputs that
are functions of the state. -/

namespace Sys2Proof.Machine

/-! ### Control register fields (30_encoding.md rule R68; 10_state.md rule R19 to rule R21) -/

/-- Bit 7 of a control byte, `enable`. -/
def ctrlEnable (d : Byte) : Bool := d.getLsbD 7

/-- Bits 5:4 of a control byte, `mlt_req`. -/
def ctrlMode (d : Byte) : BitVec 2 := d.extractLsb' 4 2

/-- `norm`: the reserved field value 2 becomes 3 (10_state.md rule R20). -/
def normMode (m : BitVec 2) : BitVec 2 := if m = 2#2 then 3#2 else m

/-- `slot_count = mlt_mode + 1` (10_state.md rule R21). -/
def slotCount (m : BitVec 2) : Nat := m.toNat + 1

/-- The selection id advanced by one modulo the slot count (42_joypad_mux.md rule R126). -/
def nextSlot (id m : BitVec 2) : BitVec 2 := BitVec.ofNat 2 ((id.toNat + 1) % slotCount m)

/-! ### Outputs that are functions of the state (10_state.md rule R33, rule R34) -/

/-- `enable_out = ctrl[7]`. -/
def State.enableOut (s : State) : Bool := ctrlEnable s.ctrl

/-- The joypad register of a selection id. -/
def joyAt (joy : Vector Byte 4) (slot : BitVec 2) : Byte := joy[slot.toNat]'(slot.isLt)

/-- `joy_out = joy[joy_id]`. -/
def State.joyOut (s : State) : Byte := joyAt s.joy s.joyId

/-- Byte `idx` of a packet. -/
def packetByte (p : Packet) (idx : BitVec 4) : Byte := p[idx.toNat]'(idx.isLt)

/-- The byte of a status read: non-empty or empty (30_encoding.md rule R69). -/
def statusByte (nonEmpty : Bool) : Byte := if nonEmpty then statusTrue else 0x00#8

/-! ### Boot packets (30_encoding.md rule R73; 41_packet_fifo.md rule R115) -/

/-- The 14 payload bytes of boot packet `i`: `hdr[14*i + 0 .. 14*i + 13]`. -/
def bootPayload (hdr : Header) (i : Fin 6) : Vector Byte 14 :=
  Vector.ofFn fun n : Fin 14 => hdr[14 * i.val + n.val]'(by omega)

/-- The checksum of a payload: the sum of its bytes modulo 256. -/
def checksum (payload : Vector Byte 14) : Byte := payload.toList.foldl (· + ·) 0x00#8

/-- The command byte of boot packet `i`. -/
def bootCommand (i : Fin 6) : Byte := bootCmdBase + bootCmdStep * BitVec.ofNat 8 i.val

/-- Boot packet `i`: command byte, checksum, payload. -/
def bootPacket (hdr : Header) (i : Fin 6) : Packet :=
  #v[bootCommand i, checksum (bootPayload hdr i)] ++ bootPayload hdr i

/-! ### Pixels and the row buffer (43_renderer.md; 20_memory.md rule R52) -/

/-- `fb(x, y)` (10_state.md rule R31). -/
def Frame.pixel (f : Frame) (x y : Nat) : Pixel := (f.cells.lookup (160 * y + x)).getD f.background

/-- The colour index of a pixel, `3 - QUANT(pixel)` (rule R143). -/
def colourIndex (p : Pixel) : BitVec 2 := 3#2 - quant p

/-- The first frame scanline of a row. -/
abbrev firstLine (row : BitVec 5) : Nat := stripHeight * row.toNat

/-- The pixel sampled for strip position (`x`, `y`) of a row: the frame's where the scanline lies in the frame, else a
draw of its own for every pixel of every `ROWSEL` (rule R141). -/
def State.stripPixel (s : State) (row : BitVec 5) (x : Fin 160) (y : Fin 8) : Pixel :=
  if firstLine row + y.val < frameHeight then s.inputs.fb.pixel x.val (firstLine row + y.val)
  else Config.drawnPixel (s.draws + 160 * y.val + x.val)

/-- How many draws a `ROWSEL` of this row takes: none in the frame, one per pixel outside it. -/
def drawsOfRow (row : BitVec 5) : Nat :=
  if firstLine row < frameHeight then 0 else 1280

/-- The buffer index of the plane-0 byte of strip position (`x`, `y`): `16 * floor(x / 8) + 2 * y` (rule R144). -/
def planeIndex (x : Fin 160) (y : Fin 8) : Nat := 16 * (x.val / 8) + 2 * y.val

/-- Both plane bytes of every strip position lie in the buffer. -/
theorem planeIndex_succ_lt (x : Fin 160) (y : Fin 8) : planeIndex x y + 1 < 320 := by
  unfold planeIndex; omega

/-- One bit of a colour index at the bit position of column `x`, `7 - (x mod 8)` (rule R144). -/
def planeBit (b : Bool) (x : Fin 160) : Byte := (BitVec.ofBool b).setWidth 8 <<< (7 - x.val % 8)

/-- ORs one pixel's colour index into the two plane bytes of its position (rule R141, rule R144). -/
def orPixel (index : BitVec 2) (v : RowBuffer) (x : Fin 160) (y : Fin 8) : RowBuffer :=
  have h := planeIndex_succ_lt x y
  let v0 := v.set (planeIndex x y) (v[planeIndex x y] ||| planeBit (index.getLsbD 0) x)
  v0.set (planeIndex x y + 1) (v0[planeIndex x y + 1] ||| planeBit (index.getLsbD 1) x)

/-- The row buffer rendered from the colour indices of a strip: zeroed, then every pixel ORed in, scanline by scanline
and column by column (rule R141). Irreducible, so that no proof about another field runs the 1280 pixels by accident;
the kernel evaluates it all the same. -/
@[irreducible] def renderStrip (index : Fin 160 → Fin 8 → BitVec 2) : RowBuffer :=
  (List.finRange 8).foldl
    (fun v y => (List.finRange 160).foldl (fun v x => orPixel (index x y) v x y) v)
    (Vector.replicate 320 0x00#8)

/-- The closed form of one buffer byte (rule R145): byte `16*t + 2*y + p` holds in bit `7 - c` the bit `p` of the
colour index at column `8*t + c` of scanline `y`. -/
def planeByte (index : Fin 160 → Fin 8 → BitVec 2) (a : Fin 320) : Byte :=
  (List.finRange 8).foldl
    (fun b c => b ||| (BitVec.ofBool
      ((index ⟨8 * (a.val / 16) + c.val, by omega⟩ ⟨a.val % 16 / 2, by omega⟩).getLsbD (a.val % 2))).setWidth 8
        <<< (7 - c.val))
    0x00#8

/-- The row buffer byte by byte, in closed form; quicker to evaluate than `renderStrip`. -/
def renderClosed (index : Fin 160 → Fin 8 → BitVec 2) : RowBuffer := Vector.ofFn (planeByte index)

end Sys2Proof.Machine
end

