-- ==== Sys2Proof/Machine/Flags.lean ====
section
/-! DEFINITION. The flags of the block (10_state.md rule R37): the three protocol locks, `joy_lock`, the flag updates
of each rule, and the names of the reachable flag triples (40_serial_decoder.md rule R90). -/

namespace Sys2Proof.Machine

/-- The flags a Pulse writes (rule R91): out of Idle-locked, waiting for both-high, no packet assembled. -/
def State.syncLocks (s : State) : State :=
  { s with pulseLock := false, strobeLock := true, packetLock := false }

/-- The flags a violation (rule R94) and a commit (rule R98) write: Idle-locked, no packet assembled; `strobe_lock`
is kept. -/
def State.idleLocks (s : State) : State :=
  { s with packetLock := false, pulseLock := true }

/-- The flag both-high writes (rule R93). -/
def State.clearStrobe (s : State) : State := { s with strobeLock := false }

/-- The flag a consumed bit writes (rule R95). -/
def State.setStrobe (s : State) : State := { s with strobeLock := true }

/-- The flag the sixteenth byte writes (rule R97). -/
def State.setPacket (s : State) : State := { s with packetLock := true }

/-- Whether a presentation advances the selection: both-high while `joy_lock` is clear (42_joypad_mux.md rule R126). -/
def State.advances (p15 p14 : Bool) (s : State) : Bool := p15 && p14 && !s.joyLock

/-- `joy_lock` after the mux part of `PIN(p15, p14)`: set by the presentation that advances the selection (rule R126),
cleared by the release pattern (42_joypad_mux.md rule R127). -/
def State.joyLockAfter (p15 p14 : Bool) (s : State) : Bool :=
  if (p15, p14) = releasePattern then false
  else if s.advances p15 p14 then true
  else s.joyLock

/-- The named protocol states (40_serial_decoder.md rule R90). -/
inductive Phase where
  | locked | armed | ready | fullArmed | fullReady
  deriving DecidableEq, Repr

/-- The protocol state that a state's flags name; `none` for the triples no run reaches (rule R90). -/
def State.phase (s : State) : Option Phase :=
  match s.pulseLock, s.strobeLock, s.packetLock with
  | true, _, false => some .locked
  | false, true, false => some .armed
  | false, false, false => some .ready
  | false, true, true => some .fullArmed
  | false, false, true => some .fullReady
  | true, _, true => none

/-- The transition table of the protocol states (40_serial_decoder.md rule R102): the state after a presentation of
`(p15, p14)`. `last` says whether a bit consumed now is the 128th of its packet. -/
def Phase.after (p15 p14 last : Bool) : Phase → Phase
  | .locked => if !p15 && !p14 then .armed else .locked
  | .armed => if !p15 && !p14 then .armed else if p15 && p14 then .ready else .locked
  | .ready => if !p15 && !p14 then .armed else if p15 && p14 then .ready else if last then .fullArmed else .armed
  | .fullArmed => if !p15 && !p14 then .armed else if p15 && p14 then .fullReady else .locked
  | .fullReady => if !p15 && !p14 then .armed else if p15 && !p14 then .locked else .fullReady

end Sys2Proof.Machine
end

