-- ==== Sys2Proof/Machine/Ops.lean ====
section
/-! DEFINITION. The shared operations: outputs, the decoder's actions (40_serial_decoder.md), the packet queue
(41_packet_fifo.md), the joypad mux (42_joypad_mux.md), the renderer (43_renderer.md), the internal reset and the
boot injection (70_reset_and_hazards.md, 41_packet_fifo.md), and the sampling of the next presented operation.

The block has no exception (60_exceptions.md rule R180). Its nearest thing to taking one is `State.violation`
(rule R184) and its nearest thing to returning from one is `State.pulse` (rule R185). -/

namespace Sys2Proof.Machine

/-- The outputs of the operation in hand replace those of the last one. -/
def State.emit (o : Output) (s : State) : State := { s with out := o }

/-! ### The decoder -/

/-- Both offsets to 0. -/
def State.clearOffsets (s : State) : State := { s with bitOffset := 0, byteOffset := 0 }

/-- Pulse (rule R91; the only exit from Idle-locked, 60_exceptions.md rule R185): the protocol position starts afresh;
accumulators and queue are kept. -/
def State.pulse (s : State) : State := s.syncLocks.clearOffsets

/-- Violation (rule R94; the analogue of taking an exception, 60_exceptions.md rule R184): the packet in progress is
abandoned, nothing is saved, and the decoder is Idle-locked until the next Pulse. -/
def State.violation (s : State) : State := s.idleLocks.clearOffsets

/-- Enqueue (41_packet_fifo.md rule R111): append if there is room, else drop silently. -/
def State.enqueue (p : Packet) (s : State) : State :=
  { s with queue := if s.queue.length < queueCapacity then s.queue ++ [p] else s.queue }

/-- Commit (rule R98): the assembled packet is enqueued if there is room; the flags change in either case. -/
def State.commit (s : State) : State := (s.enqueue s.pktAcc).idleLocks

/-- Packet complete (rule R97): the byte offset wraps and the packet awaits its final framing edge. -/
def State.packetComplete (s : State) : State := { s with byteOffset := 0 }.setPacket

/-- Byte commit (rule R96): the assembled byte is stored and the next byte, or the end of the packet, follows. -/
def State.byteCommit (s : State) : State :=
  let t : State := { s with bitOffset := 0, pktAcc := s.pktAcc.set s.byteOffset.val s.byteAcc }
  if s.byteOffset.val < 15 then { t with byteOffset := s.byteOffset + 1 } else t.packetComplete

/-- Bit consumption (rule R95): `byte_acc <- byte_acc[6:0] ++ b`, most significant bit first. -/
def State.consumeBit (b : Bool) (s : State) : State :=
  let t : State := { s.setStrobe with byteAcc := s.byteAcc.shiftConcat b }
  if s.bitOffset.val < 7 then { t with bitOffset := s.bitOffset + 1 } else t.byteCommit

/-- The decoder part of `PIN(p15, p14)`, tests in the order of rule R105 (30_encoding.md rule R62). -/
def State.decoderPart (p15 p14 : Bool) (s : State) : State :=
  if !p15 && !p14 then s.pulse
  else if s.pulseLock then s
  else if p15 && p14 then s.clearStrobe
  else if s.strobeLock then s.violation
  else if s.packetLock then (if p15 && !p14 then s.commit else s)
  else s.consumeBit (!p15 && p14)

/-! ### The joypad mux -/

/-- The mux part of `PIN(p15, p14)`: the selection advances on both-high while unlocked (rule R126), and `joy_lock` is
taken or released (rule R126, rule R127). -/
def State.muxPart (p15 p14 : Bool) (s : State) : State :=
  { s with
    joyLock := s.joyLockAfter p15 p14
    joyId := if s.advances p15 p14 then nextSlot s.joyId s.mltMode else s.joyId }

/-- One whole `PIN(p15, p14)`: the mux part first, the decoder part second (40_serial_decoder.md rule R105). -/
def State.presentPins (p15 p14 : Bool) (s : State) : State :=
  ((s.emit Output.silent).muxPart p15 p14).decoderPart p15 p14

/-- The mode update of a control write and the re-mask of the selection (42_joypad_mux.md rule R128). -/
def State.setMode (m : BitVec 2) (s : State) : State :=
  { s with mltMode := m, joyId := s.joyId &&& m }

/-! ### The consumer side of the queue -/

/-- Pop and latch (41_packet_fifo.md rule R112): whether the queue was non-empty, and the state after. -/
def State.popAndLatch (s : State) : Bool × State :=
  match s.queue with
  | [] => (false, s)
  | p :: rest => (true, { s with pktWindow := p, queue := rest })

/-! ### The renderer -/

/-- Row select of an accepted row (43_renderer.md rule R141): the strip is rendered, the cursor returns to 0. -/
def State.selectRow (row : BitVec 5) (s : State) : State :=
  { s with
    vramRow := row
    vramCursor := 0
    vram := renderStrip fun x y => colourIndex (s.stripPixel row x y)
    draws := s.draws + drawsOfRow row }

/-! ### Reset and boot injection -/

/-- `internal_reset()` (70_reset_and_hazards.md rule R201): every state element to the value of 10_state.md
rule R39. -/
def State.internalReset (s : State) : State :=
  { s with
    pulseLock := true, strobeLock := false, packetLock := false
    bitOffset := 0, byteOffset := 0
    byteAcc := 0x00#8, pktAcc := Vector.replicate 16 0x00#8
    queue := []
    ctrl := 0x00#8, mltMode := 0#2
    joy := Vector.replicate 4 joyReset
    pktWindow := Vector.replicate 16 0x00#8
    vram := Vector.replicate 320 0x00#8, vramCursor := 0, vramRow := 0#5
    joyId := 0#2, joyLock := false }

/-- `boot_inject()` (41_packet_fifo.md rule R115): the six boot packets, built from the header input, enqueued in
order. -/
def State.bootInject (s : State) : State :=
  (List.finRange 6).foldl (fun t i => t.enqueue (bootPacket s.inputs.hdr i)) s

/-! ### The next presented operation -/

/-- Takes the next presented operation: its meaning, and the state with that operation's inputs sampled and the
operation no longer pending; `none` when none is presented. -/
def State.takeNext (s : State) : Option (Instr × State) :=
  match s.pending with
  | [] => none
  | p :: rest => some (decode p.op, { s with pending := rest, inputs := p.inputs })

end Sys2Proof.Machine
end

