-- ==== Sys2Proof/Machine/BusRead.lean ====
section
/-! DEFINITION. The meanings of the bus reads (44_bus_registers.md rule R156 to rule R162). The byte a read returns is
the `data` output of the step. -/

namespace Sys2Proof.Machine

/-- `RD.LY`: the scanline counter sampled at this step (rule R156). -/
def execRdLy (s : State) : Host.Outcome State Fault Refusal := .next (s.emit (Output.byte s.inputs.ly))

/-- `RD.STATUS`: pop and latch, and whether the queue was non-empty (rule R157). -/
def execRdStatus (s : State) : Host.Outcome State Fault Refusal :=
  .next (s.popAndLatch.2.emit (Output.byte (statusByte s.popAndLatch.1)))

/-- `RD.CTRL`: the control register or 0x00, by `CTRL_READBACK` (rule R159). -/
def execRdCtrl (s : State) : Host.Outcome State Fault Refusal :=
  .next (s.emit (Output.byte (ctrlReadValue s.ctrl)))

/-- `RD.PKT`: byte `idx` of the latched packet window (rule R158). -/
def execRdPkt (idx : BitVec 4) (s : State) : Host.Outcome State Fault Refusal :=
  .next (s.emit (Output.byte (packetByte s.pktWindow idx)))

/-- `RD.VRAM`: the buffer byte at the cursor, which then advances modulo 320 (rule R160). -/
def execRdVram (s : State) : Host.Outcome State Fault Refusal :=
  .next ({ s with vramCursor := s.vramCursor + 1 }.emit (Output.byte s.vram[s.vramCursor]))

/-- `RD.OTHER`: every other address reads as 0x00 (rule R162). -/
def execRdOther (_addr : BitVec 16) (s : State) : Host.Outcome State Fault Refusal :=
  .next (s.emit (Output.byte 0x00#8))

/-- What a bus read of an address would return in a state, without its side effects: the model's read of one byte of
the bus address space (20_memory.md rule R41). -/
def State.busByte (s : State) (a : Addr) : Byte :=
  if a = 0x6000#16 then s.inputs.ly
  else if a = 0x6002#16 then statusByte s.popAndLatch.1
  else if a = 0x6003#16 then ctrlReadValue s.ctrl
  else if a &&& 0xFFF0#16 = 0x7000#16 then packetByte s.pktWindow (a.extractLsb' 0 4)
  else if a = 0x7800#16 then s.vram[s.vramCursor]
  else 0x00#8

end Sys2Proof.Machine
end

