-- ==== Sys2Proof/Machine/BusWrite.lean ====
section
/-! DEFINITION. The meanings of the bus writes (44_bus_registers.md rule R163 to rule R166). -/

namespace Sys2Proof.Machine

/-- The transition of the adapter-enable bit from 0 to 1, judged against `ctrl` before the write (rule R163). -/
def enableRises (ctrl data : Byte) : Bool := !ctrlEnable ctrl && ctrlEnable data

/-- What the enable transition does before the written byte is applied: `core_reset`, the internal reset, the boot
packets (rule R163). -/
def State.enableTransition (s : State) : State :=
  (s.emit { Output.silent with coreReset := true }).internalReset.bootInject

/-- `WR.CTRL` (rule R163): on the enable transition the reset and the injection; then, always, the mode update, the
re-mask of the selection, and the store of the byte. -/
def execWrCtrl (data : BitVec 8) (s : State) : Host.Outcome State Fault Refusal :=
  let t := if enableRises s.ctrl data then s.enableTransition else s.emit Output.silent
  .next { t.setMode (normMode (ctrlMode data)) with ctrl := data }

/-- `WR.JOY`: the byte is stored verbatim in the joypad register of the slot (rule R164). -/
def execWrJoy (slot : BitVec 2) (data : BitVec 8) (s : State) : Host.Outcome State Fault Refusal :=
  .next ({ s with joy := s.joy.set slot.toNat data slot.isLt }.emit Output.silent)

/-- `WR.OTHER`: nothing (rule R166). -/
def execWrOther (_addr : BitVec 16) (_data : BitVec 8) (s : State) : Host.Outcome State Fault Refusal :=
  .next (s.emit Output.silent)

end Sys2Proof.Machine
end

