-- ==== Sys2Proof/Machine/Facade.lean ====
section
/-! DEFINITION. The meanings of the row select, of the facade operations and of the embedded core's poll
(43_renderer.md rule R141; 44_bus_registers.md rule R167 to rule R169; 42_joypad_mux.md rule R130). -/

namespace Sys2Proof.Machine

/-- `ROWSEL`: rows 0 to 19 are rendered; a row of 20 or more is refused, as the spec refuses it (rule R141). -/
def execRowsel (row : BitVec 5) (s : State) : Host.Outcome State Fault Refusal :=
  if rowLimit ≤ row.toNat then .refused (.rowOutOfRange row)
  else .next ((s.selectRow row).emit Output.silent)

/-- `RESET`: `core_reset` and the internal reset (rule R167). -/
def execReset (s : State) : Host.Outcome State Fault Refusal :=
  .next (s.internalReset.emit { Output.silent with coreReset := true })

/-- `POWER`: `core_load`, `core_reset` and the internal reset (rule R168). -/
def execPower (s : State) : Host.Outcome State Fault Refusal :=
  .next (s.internalReset.emit { Output.silent with coreReset := true, coreLoad := true })

/-- `JOYPOLL`: the pair (`joy_id`, `joy[joy_id]`); no state change (rule R130). -/
def execJoypoll (s : State) : Host.Outcome State Fault Refusal :=
  .next (s.emit { Output.silent with poll := some (s.joyId, s.joyOut) })

/-- `RUN`: no state of this block is written, whatever `enable` is; what the environment does meanwhile arrives as
operations of its own (rule R169). -/
def execRun (s : State) : Host.Outcome State Fault Refusal := .next (s.emit Output.silent)

end Sys2Proof.Machine
end

