-- ==== Sys2Proof/Machine/Pin.lean ====
section
/-! DEFINITION. The meanings of the `PIN` operations (40_serial_decoder.md rule R91, rule R93, rule R100, rule R101;
42_joypad_mux.md rule R126, rule R127). Each presents its two levels to the mux and then to the decoder. -/

namespace Sys2Proof.Machine

/-- `PIN.PULSE`: both lines low (rule R91). -/
def execPinPulse (s : State) : Host.Outcome State Fault Refusal := .next (s.presentPins false false)

/-- `PIN.ZERO`: P15 high, P14 low (rule R100). -/
def execPinZero (s : State) : Host.Outcome State Fault Refusal := .next (s.presentPins true false)

/-- `PIN.ONE`: P15 low, P14 high (rule R101). -/
def execPinOne (s : State) : Host.Outcome State Fault Refusal := .next (s.presentPins false true)

/-- `PIN.IDLE`: both lines high (rule R93). -/
def execPinIdle (s : State) : Host.Outcome State Fault Refusal := .next (s.presentPins true true)

end Sys2Proof.Machine
end

