-- ==== Sys2Proof/Machine/Dispatch.lean ====
section
/-! DEFINITION. One arm per operation of the opcode table (30_encoding.md rule R75), each a call of its meaning. -/

namespace Sys2Proof.Machine

/-- The meaning of an operation in a state whose inputs are those of this step. -/
def exec (i : Instr) (s : State) : Host.Outcome State Fault Refusal :=
  match i with
  | .pinPulse => Sys2Proof.Machine.execPinPulse s
  | .pinZero => Sys2Proof.Machine.execPinZero s
  | .pinOne => Sys2Proof.Machine.execPinOne s
  | .pinIdle => Sys2Proof.Machine.execPinIdle s
  | .rdLy => Sys2Proof.Machine.execRdLy s
  | .rdStatus => Sys2Proof.Machine.execRdStatus s
  | .rdCtrl => Sys2Proof.Machine.execRdCtrl s
  | .rdPkt idx => Sys2Proof.Machine.execRdPkt idx s
  | .rdVram => Sys2Proof.Machine.execRdVram s
  | .rdOther addr => Sys2Proof.Machine.execRdOther addr s
  | .wrCtrl data => Sys2Proof.Machine.execWrCtrl data s
  | .wrJoy slot data => Sys2Proof.Machine.execWrJoy slot data s
  | .wrOther addr data => Sys2Proof.Machine.execWrOther addr data s
  | .rowsel row => Sys2Proof.Machine.execRowsel row s
  | .reset => Sys2Proof.Machine.execReset s
  | .power => Sys2Proof.Machine.execPower s
  | .joypoll => Sys2Proof.Machine.execJoypoll s
  | .run => Sys2Proof.Machine.execRun s

end Sys2Proof.Machine
end

