-- ==== Sys2Proof/Machine/Step.lean ====
section
/-! DEFINITION. One step: the next operation the environment presents is decoded and executed with the inputs it comes
with (00_scope.md rule R6). With nothing presented the block does nothing: it moves only when an operation is
presented (notes/assumptions/5.md). -/

namespace Sys2Proof.Machine

/-- One step of the block. -/
def step (s : State) : Host.Outcome State Fault Refusal :=
  match s.takeNext with
  | none => .next s
  | some (i, t) => exec i t

/-- The state in which the next operation presented is the one whose table word is `w` (of `nbits` bits), at the
inputs the state holds; a number that is no word of the table leaves the state as it is. -/
def State.withFetchWord (s : State) (nbits w : Nat) : State :=
  match tableWord nbits w with
  | .ok op => { s with pending := { op := op, inputs := s.inputs } :: s.pending }
  | .error _ => s

end Sys2Proof.Machine
end

