-- ==== Sys2Proof/Machine/Stimulus.lean ====
section
/-! DEFINITION. The format-level operations (30_encoding.md rule R60), sequences of operations, and the spec's
pseudo-operations for sending over the pins (30_encoding.md rule R77, rule R78). -/

namespace Sys2Proof.Machine

/-- `PIN p15 p14`. -/
def pinOp (p15 p14 : Bool) : Instr := decode (.pin (BitVec.ofBool p15 ++ BitVec.ofBool p14))

/-- `RD addr`. -/
def readOp (addr : Addr) : Instr := decode (.rd addr)

/-- `WR addr data`. -/
def writeOp (addr : Addr) (data : Byte) : Instr := decode (.wr (addr ++ data))

/-- An operation and the external inputs of the step it is presented at. -/
abbrev Timed := Instr × Inputs

/-- What a presentation stands for. -/
def Presentation.timed (p : Presentation) : Timed := (decode p.op, p.inputs)

/-- Executes operations in the order presented, each at its own inputs, stopping at the first that is refused. -/
def runOps : List Timed → State → Host.Outcome State Fault Refusal
  | [], s => .next s
  | (i, inp) :: rest, s =>
    match exec i { s with inputs := inp } with
    | .next t => runOps rest t
    | .fault r => .fault r
    | .refused r => .refused r

/-- The data edge that carries a bit (30_encoding.md rule R61). -/
def dataEdge (b : Bool) : Instr := if b then .pinOne else .pinZero

/-- `SENDBIT b` (rule R78): both-high, then the data edge. -/
def sendBit (b : Bool) : List Instr := [.pinIdle, dataEdge b]

/-- `SENDBYTE v` (rule R78): eight bit frames, most significant bit first. -/
def sendByte (v : Byte) : List Instr :=
  [7, 6, 5, 4, 3, 2, 1, 0].flatMap fun k => sendBit (v.getLsbD k)

/-- The presentations of a packet frame up to its commit edge (30_encoding.md rule R64): Pulse, 128 bit frames, and
the both-high of the final frame. -/
def packetBody (p : Packet) : List Instr :=
  .pinPulse :: p.toList.flatMap sendByte ++ [.pinIdle]

/-- `SENDPKT` (rule R78): the packet body and the commit edge; 259 presentations. -/
def sendPacket (p : Packet) : List Instr := packetBody p ++ [.pinZero]

/-- Drops every both-high presentation that directly follows another (the jitter of 40_serial_decoder.md rule R108). -/
def dropJitter : List Instr → List Instr
  | [] => []
  | i :: rest =>
    if i = .pinIdle ∧ rest.head? = some .pinIdle then dropJitter rest else i :: dropJitter rest

/-- The presentation of the release pattern (42_joypad_mux.md rule R127). -/
def releaseOp : Instr := pinOp releasePattern.1 releasePattern.2

/-- Whether an operation is a presentation of the pins. -/
def isPin : Instr → Bool
  | .pinPulse => true
  | .pinZero => true
  | .pinOne => true
  | .pinIdle => true
  | .rdLy => false
  | .rdStatus => false
  | .rdCtrl => false
  | .rdPkt _ => false
  | .rdVram => false
  | .rdOther _ => false
  | .wrCtrl _ => false
  | .wrJoy _ _ => false
  | .wrOther _ _ => false
  | .rowsel _ => false
  | .reset => false
  | .power => false
  | .joypoll => false
  | .run => false

/-- Whether an operation is of the `RD` format. -/
def isRead : Instr → Bool
  | .pinPulse => false
  | .pinZero => false
  | .pinOne => false
  | .pinIdle => false
  | .rdLy => true
  | .rdStatus => true
  | .rdCtrl => true
  | .rdPkt _ => true
  | .rdVram => true
  | .rdOther _ => true
  | .wrCtrl _ => false
  | .wrJoy _ _ => false
  | .wrOther _ _ => false
  | .rowsel _ => false
  | .reset => false
  | .power => false
  | .joypoll => false
  | .run => false

/-- Whether an operation is of the `WR` format. -/
def isWrite : Instr → Bool
  | .pinPulse => false
  | .pinZero => false
  | .pinOne => false
  | .pinIdle => false
  | .rdLy => false
  | .rdStatus => false
  | .rdCtrl => false
  | .rdPkt _ => false
  | .rdVram => false
  | .rdOther _ => false
  | .wrCtrl _ => true
  | .wrJoy _ _ => true
  | .wrOther _ _ => true
  | .rowsel _ => false
  | .reset => false
  | .power => false
  | .joypoll => false
  | .run => false

/-- Whether an operation resets the block in a state: `RESET`, `POWER`, or a control write with the enable transition
(70_reset_and_hazards.md rule R200). -/
def isReset (i : Instr) (s : State) : Bool :=
  match i with
  | .pinPulse => false
  | .pinZero => false
  | .pinOne => false
  | .pinIdle => false
  | .rdLy => false
  | .rdStatus => false
  | .rdCtrl => false
  | .rdPkt _ => false
  | .rdVram => false
  | .rdOther _ => false
  | .wrCtrl data => enableRises s.ctrl data
  | .wrJoy _ _ => false
  | .wrOther _ _ => false
  | .rowsel _ => false
  | .reset => true
  | .power => true
  | .joypoll => false
  | .run => false

/-- Whether operations, executed in order, reset the block nowhere. -/
def resetFree : List Timed → State → Bool
  | [], _ => true
  | (i, inp) :: rest, s =>
    !isReset i s &&
      match exec i { s with inputs := inp } with
      | .next t => resetFree rest t
      | .fault _ => true
      | .refused _ => true

end Sys2Proof.Machine
end

