-- ==== Sys2Proof/Safety.lean ====
section
/-! DEFINITION. The invariants of 10_state.md rule R29. Its clauses (a) and (c), the ranges of the offsets and of the
cursor, hold by the types of those fields (`Fin 8`, `Fin 16`, `Fin 320`). -/

namespace Sys2Proof.Machine

/-- Clause (b): at most 64 packets are queued. -/
abbrev State.QueueBounded (s : State) : Prop := s.queue.length ≤ queueCapacity

/-- Clause (d): the mode is legal and is the normalised field of the control register. -/
abbrev State.ModeLegal (s : State) : Prop := s.mltMode ≠ 2#2 ∧ s.mltMode = normMode (ctrlMode s.ctrl)

/-- Clause (e): the selection id is below the slot count. -/
abbrev State.SelectionInRange (s : State) : Prop := s.joyId.toNat < slotCount s.mltMode

/-- Clause (f): with a packet assembled the decoder is not Idle-locked and both offsets are 0. -/
abbrev State.AssembledClean (s : State) : Prop :=
  s.packetLock = true → s.pulseLock = false ∧ s.bitOffset = 0 ∧ s.byteOffset = 0

/-- Clause (g): the last-rendered row index is at most 19. -/
abbrev State.RowLegal (s : State) : Prop := s.vramRow.toNat < rowLimit

/-- The invariants of rule R29 together. -/
abbrev State.Inv (s : State) : Prop :=
  s.QueueBounded ∧ s.ModeLegal ∧ s.SelectionInRange ∧ s.AssembledClean ∧ s.RowLegal

/-! ### What the bus can see change (20_memory.md rule R47, rule R48, rule R56) -/

/-- The bus addresses whose byte an operation that resets nothing may change: the status address for the commit edge
and the status read, the window for the status read, the data port for its own read and the row select, the control
address for its write. -/
def busFootprint (i : Instr) (a : Addr) : Bool :=
  match i with
  | .pinPulse => false
  | .pinZero => a == 0x6002#16
  | .pinOne => false
  | .pinIdle => false
  | .rdLy => false
  | .rdStatus => a == 0x6002#16 || a &&& 0xFFF0#16 == 0x7000#16
  | .rdCtrl => false
  | .rdPkt _ => false
  | .rdVram => a == 0x7800#16
  | .rdOther _ => false
  | .wrCtrl _ => a == 0x6003#16
  | .wrJoy _ _ => false
  | .wrOther _ _ => false
  | .rowsel _ => a == 0x7800#16
  | .reset => false
  | .power => false
  | .joypoll => false
  | .run => false

/-- The seven elements of the decoder's state (10_state.md rule R10, *ProtocolState*) are the same in two states. -/
abbrev State.SameDecoder (s t : State) : Prop :=
  t.pulseLock = s.pulseLock ∧ t.strobeLock = s.strobeLock ∧ t.packetLock = s.packetLock ∧
    t.bitOffset = s.bitOffset ∧ t.byteOffset = s.byteOffset ∧ t.byteAcc = s.byteAcc ∧ t.pktAcc = s.pktAcc

/-- The elements of the register bank (10_state.md rule R10, *RegisterBank*) are the same in two states. -/
abbrev State.SameRegisterBank (s t : State) : Prop :=
  t.ctrl = s.ctrl ∧ t.mltMode = s.mltMode ∧ t.joy = s.joy ∧ t.pktWindow = s.pktWindow ∧ t.vram = s.vram ∧
    t.vramCursor = s.vramCursor ∧ t.vramRow = s.vramRow

end Sys2Proof.Machine
end

