-- ==== Sys2Proof/Certificates/Slice0/Obligations.lean ====
section
/-! DEFINITION. The statements about the model. Each docstring names the rules of spec/ it rests on. A clause that rests
on a decision or an inference the spec marks as its own (D<n>, `[derived]`), or on a choice of the model's (log entry
<n>), is named there. The model's own fields of a state (`inputs`, `pending`, `out`, `draws`) appear in the results
because a next state is stated whole. -/

open Sys2Proof Sys2Proof.Machine

/-! ### Encoding -/

/-- Decoding the word of a well-formed operation gives that operation, with every operand at every value its field
admits (30_encoding.md rule R61, rule R66, rule R67, rule R70, rule R75; the one-bit codes of `CTL` and `CORE` are the
spec's decision D21). -/
def Obligations.DecodeOfEncode : Prop :=
  ∀ i : Instr, i.wf = true → decode (encode i) = i

/-- Every operation word decodes to a well-formed operation whose word it is: each word has one meaning and there is no
illegal word (rule R66, rule R67, rule R76; decision D21). -/
def Obligations.EncodeOfDecode : Prop :=
  ∀ w : OpWord, (decode w).wf = true ∧ encode (decode w) = w

/-- The operation a word decodes to stands in a row of the opcode table that matches the word, and every other row that
matches it is one of mask 0, which is selected only when no other row of its format matches (rule R75). -/
def Obligations.DecodeFollowsOpcodeTable : Prop :=
  ∀ w : OpWord,
    rowOf (decode w) ∈ opcodeTable ∧ (rowOf (decode w)).matchesWord w = true ∧
      ∀ r ∈ opcodeTable, r.matchesWord w = true → r = rowOf (decode w) ∨ r.mask = 0

/-- Words written out from the spec's encodings decode to their operations (rule R61, rule R66, rule R67, rule R70,
rule R75): `PIN 1 0`, `RD 0x6002`, `RD 0x700F`, `RD 0x7010`, `WR 0x6003 0xB0`, `WR 0x6006 0xFB`, `WR 0x7800 0x55`,
`ROWSEL 2`, `POWER`, `RUN`. -/
def Obligations.WordsOfTheSpecDecode : Prop :=
  decode (.pin 0b10#2) = .pinZero ∧
  decode (.rd 0x6002#16) = .rdStatus ∧
  decode (.rd 0x700F#16) = .rdPkt 0xF#4 ∧
  decode (.rd 0x7010#16) = .rdOther 0x7010#16 ∧
  decode (.wr 0x6003B0#24) = .wrCtrl 0xB0#8 ∧
  decode (.wr 0x6006FB#24) = .wrJoy 2#2 0xFB#8 ∧
  decode (.wr 0x780055#24) = .wrOther 0x7800#16 0x55#8 ∧
  decode (.row 0b00010#5) = .rowsel 2#5 ∧
  decode (.ctl 1#1) = .power ∧
  decode (.core 1#1) = .run

/-- A number is decoded exactly when it fits the width of its format; one with higher bits is rejected by name
(rule R60, rule R75). -/
def Obligations.StrayBitsRejected : Prop :=
  ∀ (fmt : Format) (w : Nat),
    (2 ^ fmt.width ≤ w → decodeBits fmt w = .error (.strayBits fmt)) ∧
    (w < 2 ^ fmt.width → ∃ op : OpWord, op.fmt = fmt ∧ op.bits = w ∧ decodeBits fmt w = .ok (decode op))

/-! ### The step -/

/-- A step runs the operation presented next: `step` is `exec` of the decoded operation in the state in which that
operation is no longer pending and its inputs are the ones sampled (00_scope.md rule R6). The list of presented
operations is the model's form of the environment (log entry 5). -/
def Obligations.StepRunsPresentedOperation : Prop :=
  ∀ (s : State) (p : Presentation) (rest : List Presentation), s.pending = p :: rest →
    step s = exec (decode p.op) { s with pending := rest, inputs := p.inputs }

/-- Presenting a well-formed operation by its word makes the next step execute exactly it (rule R6; log entry 5). -/
def Obligations.StepRunsEncodedOperation : Prop :=
  ∀ (s : State) (i : Instr) (inp : Inputs) (rest : List Presentation), i.wf = true →
    step { s with pending := { op := encode i, inputs := inp } :: rest } =
      exec i { s with pending := rest, inputs := inp }

/-- With nothing presented a step changes nothing: the block moves only when an operation is presented (00_scope.md
section 6, Agents; log entry 5). -/
def Obligations.NothingPresentedNothingMoves : Prop :=
  ∀ s : State, s.pending = [] → step s = .next s

/-- A run of as many steps as operations are presented executes them in the order presented, each at the inputs it was
presented with, and leaves the later ones pending (20_memory.md rule R54; log entry 5). -/
def Obligations.RunExecutesInPresentedOrder : Prop :=
  ∀ (ps rest : List Presentation) (s : State), s.pending = ps ++ rest →
    (Sys2Proof.core.run ps.length s : Host.Outcome State Fault Refusal) =
      runOps (ps.map Presentation.timed) { s with pending := rest }

/-- Every operation with operands in range answers a next state, in every state (60_exceptions.md rule R180): only a
`ROWSEL` with a row of 20 or more has none. -/
def Obligations.OperationsInRangeComplete : Prop :=
  ∀ (i : Instr) (s : State), (∀ row : BitVec 5, i = .rowsel row → row.toNat < 20) → ∃ t, exec i s = .next t

/-- `ROWSEL` with a row of 20 or more is refused (43_renderer.md rule R141; decision D15). -/
def Obligations.RowTwentyAndAboveRefused : Prop :=
  ∀ (row : BitVec 5) (s : State), 20 ≤ row.toNat → exec (.rowsel row) s = .refused (.rowOutOfRange row)

/-! ### The decoder -/

/-- `PIN.PULSE` in every state (40_serial_decoder.md rule R91; that accumulators and queue are kept is decision D12):
the five decoder elements, the release of `joy_lock` if the release pattern is (0,0) (42_joypad_mux.md rule R127, the
pattern itself free, log entry 1), and nothing else. -/
def Obligations.PulseAlwaysWins : Prop :=
  ∀ s : State, exec .pinPulse s = .next { s with
    pulseLock := false, byteOffset := 0, bitOffset := 0, strobeLock := true, packetLock := false
    joyLock := if (false, false) = releasePattern then false else s.joyLock
    out := Output.silent }

/-- `PIN.IDLE` in every state: unless Idle-locked it clears `strobe_lock` (rule R93); while `joy_lock` is clear it
advances the selection (42_joypad_mux.md rule R126); `joy_lock` is set after it; nothing else changes. That the slot
count is `mlt_mode + 1` is the spec's decision D4; that the advance is modulo it in every state, also where `mlt_mode` is
2, is the model's choice (log entry 14). -/
def Obligations.BothHighArmsAndAdvances : Prop :=
  ∀ s : State, exec .pinIdle s = .next { s with
    strobeLock := if s.pulseLock then s.strobeLock else false
    joyLock := true
    joyId := if s.joyLock then s.joyId
      else BitVec.ofNat 2 ((s.joyId.toNat + 1) % (s.mltMode.toNat + 1))
    out := Output.silent }

/-- While Idle-locked a data edge leaves every decoder element and the queue unchanged (rule R92); the mux part still
runs (rule R127, the pattern free, log entry 1). -/
def Obligations.IdleLockedIgnoresDataEdges : Prop :=
  ∀ s : State, s.pulseLock = true →
    exec .pinZero s = .next { s with
      joyLock := if (true, false) = releasePattern then false else s.joyLock, out := Output.silent } ∧
    exec .pinOne s = .next { s with
      joyLock := if (false, true) = releasePattern then false else s.joyLock, out := Output.silent }

/-- A data edge with `strobe_lock` set is a violation (rule R94; that `strobe_lock`, the accumulators and the queue are
kept is decision D9): the packet in progress is abandoned and the decoder is Idle-locked; nothing is saved or signalled
(60_exceptions.md rule R184). -/
def Obligations.UnframedEdgeIsViolation : Prop :=
  ∀ s : State, s.pulseLock = false → s.strobeLock = true →
    exec .pinZero s = .next { s with
      packetLock := false, pulseLock := true, bitOffset := 0, byteOffset := 0
      joyLock := if (true, false) = releasePattern then false else s.joyLock, out := Output.silent } ∧
    exec .pinOne s = .next { s with
      packetLock := false, pulseLock := true, bitOffset := 0, byteOffset := 0
      joyLock := if (false, true) = releasePattern then false else s.joyLock, out := Output.silent }

/-- A consumed bit that does not end a byte is shifted in at bit 0, re-arms `strobe_lock` and counts (rule R95). -/
def Obligations.BitConsumedWithinByte : Prop :=
  ∀ s : State, s.pulseLock = false → s.strobeLock = false → s.packetLock = false → s.bitOffset.val < 7 →
    exec .pinZero s = .next { s with
      byteAcc := s.byteAcc.extractLsb' 0 7 ++ 0#1, strobeLock := true, bitOffset := s.bitOffset + 1
      joyLock := if (true, false) = releasePattern then false else s.joyLock, out := Output.silent } ∧
    exec .pinOne s = .next { s with
      byteAcc := s.byteAcc.extractLsb' 0 7 ++ 1#1, strobeLock := true, bitOffset := s.bitOffset + 1
      joyLock := if (false, true) = releasePattern then false else s.joyLock, out := Output.silent }

/-- The eighth bit of a byte other than the sixteenth commits the byte, with that bit in it, at `byte_offset`
(rule R95, rule R96). -/
def Obligations.EighthBitCommitsByte : Prop :=
  ∀ s : State, s.pulseLock = false → s.strobeLock = false → s.packetLock = false → s.bitOffset = 7 →
    s.byteOffset.val < 15 →
    exec .pinZero s = .next { s with
      byteAcc := s.byteAcc.extractLsb' 0 7 ++ 0#1, strobeLock := true, bitOffset := 0
      pktAcc := s.pktAcc.set s.byteOffset.val (s.byteAcc.extractLsb' 0 7 ++ 0#1)
      byteOffset := s.byteOffset + 1
      joyLock := if (true, false) = releasePattern then false else s.joyLock, out := Output.silent } ∧
    exec .pinOne s = .next { s with
      byteAcc := s.byteAcc.extractLsb' 0 7 ++ 1#1, strobeLock := true, bitOffset := 0
      pktAcc := s.pktAcc.set s.byteOffset.val (s.byteAcc.extractLsb' 0 7 ++ 1#1)
      byteOffset := s.byteOffset + 1
      joyLock := if (false, true) = releasePattern then false else s.joyLock, out := Output.silent }

/-- The last bit of the sixteenth byte completes the packet (rule R97; the wrap of `byte_offset` to 0 is decision D8):
`packet_lock` is set and nothing is queued yet. -/
def Obligations.LastBitCompletesPacket : Prop :=
  ∀ s : State, s.pulseLock = false → s.strobeLock = false → s.packetLock = false → s.bitOffset = 7 →
    s.byteOffset = 15 →
    exec .pinZero s = .next { s with
      byteAcc := s.byteAcc.extractLsb' 0 7 ++ 0#1, strobeLock := true, bitOffset := 0
      pktAcc := s.pktAcc.set 15 (s.byteAcc.extractLsb' 0 7 ++ 0#1)
      byteOffset := 0, packetLock := true
      joyLock := if (true, false) = releasePattern then false else s.joyLock, out := Output.silent } ∧
    exec .pinOne s = .next { s with
      byteAcc := s.byteAcc.extractLsb' 0 7 ++ 1#1, strobeLock := true, bitOffset := 0
      pktAcc := s.pktAcc.set 15 (s.byteAcc.extractLsb' 0 7 ++ 1#1)
      byteOffset := 0, packetLock := true
      joyLock := if (false, true) = releasePattern then false else s.joyLock, out := Output.silent }

/-- With a packet assembled and `strobe_lock` clear, `PIN.ZERO` commits it (rule R98, 41_packet_fifo.md rule R111; that
the other elements are kept is decision D11): it is appended if fewer than 64 packets are queued, else dropped, and the
flags change in either case. `PIN.ONE` there is ignored by the decoder (rule R99; that `strobe_lock` is kept too is
decision D10). -/
def Obligations.FramedZeroCommitsFramedOneIsIgnored : Prop :=
  ∀ s : State, s.pulseLock = false → s.strobeLock = false → s.packetLock = true →
    exec .pinZero s = .next { s with
      queue := if s.queue.length < 64 then s.queue ++ [s.pktAcc] else s.queue
      packetLock := false, pulseLock := true
      joyLock := if (true, false) = releasePattern then false else s.joyLock, out := Output.silent } ∧
    exec .pinOne s = .next { s with
      joyLock := if (false, true) = releasePattern then false else s.joyLock, out := Output.silent }

/-- The complete transition table of the decoder's control state (rule R102 `[derived]`, rule R90): from each of the
five named states, each presentation leads to the state the table names. -/
def Obligations.TransitionTable : Prop :=
  ∀ (s : State) (ph : Phase) (p15 p14 : Bool), s.phase = some ph →
    ∃ t, exec (pinOp p15 p14) s = .next t ∧
      t.phase = some (ph.after p15 p14 (decide (s.bitOffset = 7 ∧ s.byteOffset = 15)))

/-- The frame of the pins (rule R107): a presentation writes no element but the decoder's, `joy_id`, `joy_lock` and, in a
commit only, the queue; and no operation other than a presentation or a reset writes an element of the decoder. -/
def Obligations.PinFrame : Prop :=
  (∀ (i : Instr) (s : State), isPin i = true →
    ∃ t, exec i s = .next t ∧ s.SameRegisterBank t ∧
      (t.queue = s.queue ∨
        i = .pinZero ∧ s.pulseLock = false ∧ s.strobeLock = false ∧ s.packetLock = true ∧
          t.queue = s.queue ++ [s.pktAcc])) ∧
  (∀ (i : Instr) (s t : State), isPin i = false → isReset i s = false → exec i s = .next t → s.SameDecoder t)

/-- While Idle-locked, presentations other than Pulse, however many, leave every decoder element and the queue
unchanged (rule R92, rule R109). -/
def Obligations.OnlyPulseLeavesIdleLock : Prop :=
  ∀ (ops : List Timed) (s : State), s.pulseLock = true →
    (∀ o ∈ ops, isPin o.1 = true ∧ o.1 ≠ .pinPulse) →
    ∃ t, runOps ops s = .next t ∧ s.SameDecoder t ∧ t.queue = s.queue

/-- The round trip (rule R106 `[derived]`, rule R104 `[derived]`): from any state, `SENDPKT` of any 16 bytes completes,
appends exactly those bytes as one packet if fewer than 64 are queued (else nothing), leaves the decoder Idle-locked,
and touches no register. -/
def Obligations.SentPacketIsEnqueued : Prop :=
  ∀ (p : Packet) (ops : List Timed) (s : State), ops.map Prod.fst = sendPacket p →
    ∃ t, runOps ops s = .next t ∧
      t.queue = (if s.queue.length < 64 then s.queue ++ [p] else s.queue) ∧
      t.pulseLock = true ∧ t.packetLock = false ∧ t.pktAcc = p ∧ s.SameRegisterBank t

/-- The round trip with other operations interleaved (rule R106 `[derived]`, rule R107): if the presentations among
some operations are those of a packet frame up to its commit edge, and nothing among them resets the block, then up
to there packets have only been popped, and the commit edge appends exactly that packet if there is room. -/
def Obligations.InterleavedPacketIsEnqueued : Prop :=
  ∀ (p : Packet) (ops : List Timed) (s m : State),
    (ops.map Prod.fst).filter isPin = packetBody p → resetFree ops s = true → runOps ops s = .next m →
    m.queue.length < 64 →
    (∃ k, m.queue = s.queue.drop k) ∧ ∃ t, exec .pinZero m = .next t ∧ t.queue = m.queue ++ [p]

/-- Jitter tolerance (rule R108 `[derived]`): with extra both-high presentations anywhere in a packet frame after its
Pulse, the packet that is enqueued and every decoder element at the end are those of the frame without them: the packet
and its last byte in the accumulators, both offsets 0, `strobe_lock` and `packet_lock` clear, Idle-locked. -/
def Obligations.JitterDoesNotDisturbPacket : Prop :=
  ∀ (p : Packet) (ops : List Timed) (s : State), dropJitter (ops.map Prod.fst) = sendPacket p →
    ∃ t, runOps ops s = .next t ∧
      t.queue = (if s.queue.length < 64 then s.queue ++ [p] else s.queue) ∧
      t.pulseLock = true ∧ t.strobeLock = false ∧ t.packetLock = false ∧
      t.bitOffset = 0 ∧ t.byteOffset = 0 ∧ t.byteAcc = p[15] ∧ t.pktAcc = p

/-- Recovery (rule R109, rule R104): after a violation and any presentations other than Pulse, a complete packet frame
is received correctly, with nothing of the abandoned packet in it. -/
def Obligations.RecoveryAfterViolation : Prop :=
  ∀ (p : Packet) (b : Bool) (inp : Inputs) (noise ops : List Timed) (s : State),
    s.pulseLock = false → s.strobeLock = true → s.queue.length < 64 →
    (∀ o ∈ noise, isPin o.1 = true ∧ o.1 ≠ .pinPulse) → ops.map Prod.fst = sendPacket p →
    ∃ t, runOps ((dataEdge b, inp) :: noise ++ ops) s = .next t ∧ t.queue = s.queue ++ [p]

/-! ### The packet queue and the window -/

/-- A status read of a non-empty queue returns 0x01, latches the front packet into the window and pops it; of an empty
queue it returns 0x00 and changes nothing (41_packet_fifo.md rule R112, 44_bus_registers.md rule R157; the byte 0x01 is
decision D6). -/
def Obligations.StatusReadPopsAndLatches : Prop :=
  (∀ (s : State) (p : Packet) (rest : List Packet), s.queue = p :: rest →
    exec .rdStatus s = .next { s with
      pktWindow := p, queue := rest, out := { Output.silent with data := some 0x01#8 } }) ∧
  (∀ s : State, s.queue = [] →
    exec .rdStatus s = .next { s with out := { Output.silent with data := some 0x00#8 } })

/-- Window persistence (41_packet_fifo.md rule R113): the window changes only by a status read that finds the queue
non-empty, and by a reset. -/
def Obligations.WindowPersists : Prop :=
  ∀ (i : Instr) (s t : State), exec i s = .next t → isReset i s = false → (i = .rdStatus → s.queue = []) →
    t.pktWindow = s.pktWindow

/-- Strict FIFO (41_packet_fifo.md rule R116): the `n`-th of a series of status reads (from 0) returns 0x01 (the byte is
decision D6), latches the packet that was `n`-th in the queue, and leaves the later ones in order. -/
def Obligations.StatusReadsEmptyQueueInOrder : Prop :=
  ∀ (n : Nat) (p : Packet) (ops : List Timed) (s : State), s.queue[n]? = some p →
    ops.map Prod.fst = List.replicate (n + 1) .rdStatus →
    ∃ t, runOps ops s = .next t ∧ t.out.data = some 0x01#8 ∧ t.pktWindow = p ∧ t.queue = s.queue.drop (n + 1)

/-- Overflow (41_packet_fifo.md rule R114): of any number of packets sent, those that fit behind the queued ones up to
64 in all are kept, in order, and every later one is dropped; the flags after the last commit are the same whether its
packet was kept or not. -/
def Obligations.OverflowDropsTheNewest : Prop :=
  ∀ (ps : List Packet) (ops : List Timed) (s : State), s.queue.length ≤ 64 →
    ops.map Prod.fst = ps.flatMap sendPacket →
    ∃ t, runOps ops s = .next t ∧ t.queue = (s.queue ++ ps).take 64 ∧
      (ps ≠ [] → t.pulseLock = true ∧ t.packetLock = false)

/-- What was sent over the pins is read back from the window byte for byte (rule R106, rule R112, rule R158): from an
empty queue, `SENDPKT`, a status read and a window read return byte `idx` of the packet. -/
def Obligations.SentPacketIsReadBack : Prop :=
  ∀ (p : Packet) (idx : BitVec 4) (ops : List Timed) (s : State), s.queue = [] →
    ops.map Prod.fst = sendPacket p ++ [.rdStatus, .rdPkt idx] →
    ∃ t, runOps ops s = .next t ∧ t.out.data = p[idx.toNat]? ∧ t.queue = []

/-- Only a commit (`PIN.ZERO` neither Idle-locked nor strobe-locked, with a packet assembled) and an enabling control
write lengthen the queue (41_packet_fifo.md rule R110), and no operation takes it past 64. -/
def Obligations.QueueGrowsByCommitAndBootOnly : Prop :=
  ∀ (i : Instr) (s t : State), exec i s = .next t →
    (s.queue.length < t.queue.length →
      (i = .pinZero ∧ s.pulseLock = false ∧ s.strobeLock = false ∧ s.packetLock = true) ∨
        ∃ data, i = .wrCtrl data ∧ enableRises s.ctrl data = true) ∧
    (s.queue.length ≤ 64 → t.queue.length ≤ 64)

/-- A boot packet (41_packet_fifo.md rule R115, 30_encoding.md rule R73; the command bytes 0xF1 + 2i are decision D16):
its payload is the packet's 14 bytes of the header, and its checksum byte is their sum modulo 256. -/
def Obligations.BootPacketChecksum : Prop :=
  ∀ (hdr : Header) (i : Fin 6),
    (bootPacket hdr i)[0] = BitVec.ofNat 8 (0xF1 + 2 * i.val) ∧
    (∀ n : Fin 14, (bootPacket hdr i)[2 + n.val] = hdr[14 * i.val + n.val]) ∧
    (bootPacket hdr i)[1].toNat =
      ((List.range 14).map fun n => ((bootPacket hdr i)[2 + n]?.getD 0).toNat).sum % 256

/-! ### The joypad mux -/

/-- `JOYPOLL` returns the selection id and the joypad register it selects, and changes no state (42_joypad_mux.md
rule R130; the form of the result is decision D22). -/
def Obligations.JoypollReturnsSelectedRegister : Prop :=
  ∀ s : State, exec .joypoll s = .next { s with
    out := { Output.silent with poll := some (s.joyId, s.joy[s.joyId.toNat]'(s.joyId.isLt)) } }

/-- One advance per release (42_joypad_mux.md rule R132 `[derived]`, rule R126): presentations none of which is the
release pattern advance the selection exactly once if `joy_lock` is clear and both-high is among them, however often, and
otherwise not at all. The release pattern is free (decision D3, log entry 1); the advance is modulo `mlt_mode + 1`
(decision D4), also where `mlt_mode` is 2 (the model's choice, log entry 14). -/
def Obligations.OneAdvancePerRelease : Prop :=
  ∀ (ops : List Timed) (s : State), (∀ o ∈ ops, isPin o.1 = true ∧ o.1 ≠ releaseOp) →
    ∃ t, runOps ops s = .next t ∧
      t.joyId = (if s.joyLock = false ∧ .pinIdle ∈ ops.map Prod.fst then nextSlot s.joyId s.mltMode else s.joyId)

/-- Round-robin polling (rule R132 `[derived]`, rule R126, rule R127): `n` repetitions of the release pattern and
both-high advance the selection by `n` modulo the slot count, whatever the release pattern is (decision D3, log entry 1).
The slot count is `mlt_mode + 1` (decision D4), also where `mlt_mode` is 2 (the model's choice, log entry 14). -/
def Obligations.RoundRobinPolling : Prop :=
  ∀ (n : Nat) (ops : List Timed) (s : State), s.SelectionInRange →
    ops.map Prod.fst = (List.replicate n [releaseOp, .pinIdle]).flatten →
    ∃ t, runOps ops s = .next t ∧ t.joyId.toNat = (s.joyId.toNat + n) % slotCount s.mltMode

/-! ### Bus registers -/

/-- The reads other than status and control (44_bus_registers.md rule R156, rule R158, rule R160, rule R162): the line
counter, the window, the row buffer at the cursor (which advances modulo 320), and 0x00 everywhere else. -/
def Obligations.ReadResults : Prop :=
  (∀ s : State, exec .rdLy s = .next { s with out := { Output.silent with data := some s.inputs.ly } }) ∧
  (∀ (idx : BitVec 4) (s : State), exec (.rdPkt idx) s = .next { s with
    out := { Output.silent with data := some (s.pktWindow[idx.toNat]'(idx.isLt)) } }) ∧
  (∀ s : State, ∃ c : Fin 320, c.val = (s.vramCursor.val + 1) % 320 ∧
    exec .rdVram s = .next { s with
      vramCursor := c, out := { Output.silent with data := some s.vram[s.vramCursor] } }) ∧
  (∀ (addr : BitVec 16) (s : State), exec (.rdOther addr) s = .next { s with
    out := { Output.silent with data := some 0x00#8 } })

/-- A read of the control register returns the byte last written, or 0x00, by the OPEN parameter `CTRL_READBACK`, and
changes no state (rule R159, decision D5; the parameter is free, log entry 2). -/
def Obligations.ControlReadback : Prop :=
  ∀ s : State, exec .rdCtrl s = .next { s with
    out := { Output.silent with data := some (match Config.ctrlReadback with
      | .raw => s.ctrl
      | .zero => 0x00#8) } }

/-- The register map (20_memory.md rule R41, rule R42): a read of any of the 65536 addresses completes and returns the
byte the map gives that address. -/
def Obligations.ReadsFollowRegisterMap : Prop :=
  ∀ (a : Addr) (s : State), ∃ t, exec (readOp a) s = .next t ∧ t.out.data = some (s.busByte a)

/-- The frame of the reads (44_bus_registers.md rule R161): no read writes an element but the queue and the window, in a
status read that finds the queue non-empty, and the cursor, in a read of the data port. -/
def Obligations.ReadFrame : Prop :=
  ∀ (i : Instr) (s t : State), isRead i = true → exec i s = .next t →
    s.SameDecoder t ∧ t.joyId = s.joyId ∧ t.joyLock = s.joyLock ∧ t.ctrl = s.ctrl ∧ t.mltMode = s.mltMode ∧
      t.joy = s.joy ∧ t.vram = s.vram ∧ t.vramRow = s.vramRow ∧
      (i ≠ .rdStatus ∨ s.queue = [] → t.queue = s.queue ∧ t.pktWindow = s.pktWindow) ∧
      (i ≠ .rdVram → t.vramCursor = s.vramCursor)

/-- The frame of the writes (44_bus_registers.md rule R165): a write without the enable transition writes no element but
one joypad register, in `WR.JOY`, and `ctrl`, `mlt_mode` and `joy_id`, in `WR.CTRL`. -/
def Obligations.WriteFrame : Prop :=
  ∀ (i : Instr) (s t : State), isWrite i = true → isReset i s = false → exec i s = .next t →
    s.SameDecoder t ∧ t.queue = s.queue ∧ t.pktWindow = s.pktWindow ∧ t.vram = s.vram ∧
      t.vramCursor = s.vramCursor ∧ t.vramRow = s.vramRow ∧ t.joyLock = s.joyLock ∧
      ((∀ data, i ≠ .wrCtrl data) → t.ctrl = s.ctrl ∧ t.mltMode = s.mltMode ∧ t.joyId = s.joyId) ∧
      (∀ k : Fin 4, (∀ (slot : BitVec 2) (data : Byte), i = .wrJoy slot data → k.val ≠ slot.toNat) →
        t.joy[k] = s.joy[k])

/-- A control write without the enable transition writes `ctrl`, `mlt_mode` and `joy_id` and nothing else
(44_bus_registers.md rule R163; 42_joypad_mux.md rule R128; 30_encoding.md rule R68): the mode is bits 5:4 with
2 normalised to 3 (decision D4), the selection is masked by it, and the byte is stored verbatim (decision D5). A write of
1 to 0 in bit 7 is one of these (decision D28). -/
def Obligations.ControlWriteWithoutTransition : Prop :=
  ∀ (data : Byte) (s : State), (s.ctrl.getLsbD 7 = true ∨ data.getLsbD 7 = false) →
    ∃ m : BitVec 2, m = (if data.extractLsb' 4 2 = 2#2 then 3#2 else data.extractLsb' 4 2) ∧
      exec (.wrCtrl data) s = .next { s with
        ctrl := data, mltMode := m, joyId := s.joyId &&& m, out := Output.silent }

/-- The enable transition (rule R163, 70_reset_and_hazards.md rule R211; reset values decision D7, order of effects
decision D17): every element at its reset value but `ctrl` and `mlt_mode` from the byte written and a queue of exactly
the six boot packets in order; `core_reset` is raised. -/
def Obligations.EnableTransition : Prop :=
  ∀ (data : Byte) (s : State), s.ctrl.getLsbD 7 = false → data.getLsbD 7 = true →
    ∃ m : BitVec 2, m = (if data.extractLsb' 4 2 = 2#2 then 3#2 else data.extractLsb' 4 2) ∧
      exec (.wrCtrl data) s = .next { State.reset with
        queue := [bootPacket s.inputs.hdr 0, bootPacket s.inputs.hdr 1, bootPacket s.inputs.hdr 2,
          bootPacket s.inputs.hdr 3, bootPacket s.inputs.hdr 4, bootPacket s.inputs.hdr 5]
        ctrl := data, mltMode := m
        inputs := s.inputs, pending := s.pending, draws := s.draws
        out := { Output.silent with coreReset := true } }

/-- A joypad write stores its byte verbatim in one joypad register, whatever the mode, and writes nothing else
(rule R164); every other write does nothing (rule R166). -/
def Obligations.JoypadAndIgnoredWrites : Prop :=
  (∀ (slot : BitVec 2) (data : Byte) (s : State), ∃ j : Vector Byte 4,
    exec (.wrJoy slot data) s = .next { s with joy := j, out := Output.silent } ∧
    j[slot.toNat]'(slot.isLt) = data ∧
    ∀ k : Fin 4, k.val ≠ slot.toNat → j[k] = s.joy[k]) ∧
  (∀ (addr : BitVec 16) (data : Byte) (s : State),
    exec (.wrOther addr data) s = .next { s with out := Output.silent })

/-- The frame on the bus (20_memory.md rule R47, rule R48, rule R56): an operation that resets nothing leaves every byte of the bus address space as it read before, outside the addresses its
rule names. -/
def Obligations.BusBytesOutsideFootprintUnchanged : Prop :=
  ∀ (i : Instr) (s t : State) (a : Addr), exec i s = .next t → isReset i s = false → busFootprint i a = false →
    t.busByte a = s.busByte a

/-- The enable bit gates nothing of the block (60_exceptions.md rule R191; decisions D23, D24): apart from the control
accesses and the resets, an operation does the same whatever the control register holds. -/
def Obligations.EnableGatesNothing : Prop :=
  ∀ (i : Instr) (s t : State) (c : Byte),
    i ≠ .rdCtrl → (∀ data, i ≠ .wrCtrl data) → i ≠ .reset → i ≠ .power → exec i s = .next t →
    exec i { s with ctrl := c } = .next { t with ctrl := c }

/-! ### Reset, power, run -/

/-- `RESET` and `POWER` set every element to its reset value, from any state, and raise `core_reset`, `POWER` also
`core_load` (44_bus_registers.md rule R167, rule R168; 70_reset_and_hazards.md rule R201; the reset values are decision
D7). -/
def Obligations.ResetAndPower : Prop :=
  (∀ s : State, exec .reset s = .next { State.reset with
    inputs := s.inputs, pending := s.pending, draws := s.draws
    out := { Output.silent with coreReset := true } }) ∧
  (∀ s : State, exec .power s = .next { State.reset with
    inputs := s.inputs, pending := s.pending, draws := s.draws
    out := { Output.silent with coreReset := true, coreLoad := true } })

/-- The reset values (10_state.md rule R39; every one the spec's reading, decision D7). -/
def Obligations.ResetValues : Prop :=
  State.reset.pulseLock = true ∧ State.reset.strobeLock = false ∧ State.reset.packetLock = false ∧
  State.reset.bitOffset = 0 ∧ State.reset.byteOffset = 0 ∧ State.reset.byteAcc = 0x00#8 ∧
  (∀ k : Fin 16, State.reset.pktAcc[k] = 0x00#8) ∧ State.reset.queue = [] ∧
  State.reset.ctrl = 0x00#8 ∧ State.reset.mltMode = 0#2 ∧ (∀ k : Fin 4, State.reset.joy[k] = 0xFF#8) ∧
  (∀ k : Fin 16, State.reset.pktWindow[k] = 0x00#8) ∧ (∀ k : Fin 320, State.reset.vram[k] = 0x00#8) ∧
  State.reset.vramCursor = 0 ∧ State.reset.vramRow = 0#5 ∧ State.reset.joyId = 0#2 ∧
  State.reset.joyLock = false

/-- What a driver sees straight after `RESET` or `POWER`, from any state (70_reset_and_hazards.md rule R202 `[derived]`;
decision D7): every address but the line counter's reads 0x00, the poll gives slot 0 and 0xFF, and the embedded core
is not enabled. -/
def Obligations.ViewAfterReset : Prop :=
  ∀ (i : Instr) (s : State), i = .reset ∨ i = .power →
    ∃ t, exec i s = .next t ∧ (∀ a : Addr, a ≠ 0x6000#16 → t.busByte a = 0x00#8) ∧
      t.joyId = 0#2 ∧ t.joyOut = 0xFF#8 ∧ t.enableOut = false

/-- `RUN` writes no state of the block, whatever `enable` is (44_bus_registers.md rule R169; decision D23). -/
def Obligations.RunWritesNothing : Prop :=
  ∀ s : State, exec .run s = .next { s with out := Output.silent }

/-! ### The renderer -/

/-- `ROWSEL` of rows 0 to 19 stores the row, returns the cursor to 0, renders the buffer from the colour indices of the
strip's pixels, and writes nothing else (43_renderer.md rule R141; the range is decision D15). The count of draws is the
model's own (log entry 4). -/
def Obligations.RowSelectResult : Prop :=
  ∀ (row : BitVec 5) (s : State), row.toNat < 20 →
    exec (.rowsel row) s = .next { s with
      vramRow := row, vramCursor := 0
      vram := renderStrip fun x y => colourIndex (s.stripPixel row x y)
      draws := s.draws + drawsOfRow row, out := Output.silent }

/-- The closed form of the rendered buffer (rule R145 `[derived]`; the layout is decision D14): after `ROWSEL`, bit
`7 - c` of byte `16*t + 2*y + p` is bit `p` of the colour index of the pixel sampled at column `8*t + c`, scanline `y`. -/
def Obligations.RowBufferClosedForm : Prop :=
  ∀ (row : BitVec 5) (s : State), row.toNat < 20 → ∃ u, exec (.rowsel row) s = .next u ∧
    ∀ (t : Fin 20) (y : Fin 8) (p : Fin 2) (c : Fin 8),
      (u.vram[16 * t.val + 2 * y.val + p.val]'(by omega)).getLsbD (7 - c.val) =
        (3#2 - quant (s.stripPixel row ⟨8 * t.val + c.val, by omega⟩ y)).getLsbD p.val

/-- The renderer's loop (rule R141) and the byte-by-byte closed form (rule R145 `[derived]`) compute the same buffer. -/
def Obligations.LoopEqualsClosedForm : Prop :=
  ∀ index : Fin 160 → Fin 8 → BitVec 2, renderStrip index = renderClosed index

/-- Where a strip's pixels come from (rule R141, decision D15): rows 0 to 17 sample the frame at column `x`, scanline
`8*row + y`; rows 18 and 19 draw a pixel of its own for every position and every `ROWSEL` (the draw's form is log
entry 4). -/
def Obligations.StripPixelSource : Prop :=
  ∀ (row : BitVec 5) (s : State) (x : Fin 160) (y : Fin 8),
    (row.toNat < 18 → s.stripPixel row x y = s.inputs.fb.pixel x.val (8 * row.toNat + y.val)) ∧
    (18 ≤ row.toNat → s.stripPixel row x y = Config.drawnPixel (s.draws + (160 * y.val + x.val)) ∧
      (s.selectRow row).draws = s.draws + 1280)

/-- White and black rows (rule R146): a strip of white pixels renders to 320 bytes of 0x00, a strip of black ones to 320
bytes of 0xFF, for every admissible `QUANT` and every accepted row. -/
def Obligations.WhiteAndBlackRows : Prop :=
  ∀ (row : BitVec 5) (s : State), row.toNat < 20 →
    ((∀ (x : Fin 160) (y : Fin 8), s.stripPixel row x y = 0xFFFFFF#24) →
      ∃ t, exec (.rowsel row) s = .next t ∧ ∀ k : Fin 320, t.vram[k] = 0x00#8) ∧
    ((∀ (x : Fin 160) (y : Fin 8), s.stripPixel row x y = 0x000000#24) →
      ∃ t, exec (.rowsel row) s = .next t ∧ ∀ k : Fin 320, t.vram[k] = 0xFF#8)

/-- No history (rule R147): the buffer after a `ROWSEL` depends on the strip sampled in that operation and on nothing
else, not even the row it is the strip of, and between two row selects nothing but a reset changes it. -/
def Obligations.RenderHasNoHistory : Prop :=
  (∀ (row row' : BitVec 5) (s s' : State), row.toNat < 20 → row'.toNat < 20 →
    (∀ (x : Fin 160) (y : Fin 8), s.stripPixel row x y = s'.stripPixel row' x y) →
    ∃ t t', exec (.rowsel row) s = .next t ∧ exec (.rowsel row') s' = .next t' ∧ t.vram = t'.vram) ∧
  (∀ (ops : List Timed) (s t : State), resetFree ops s = true → (∀ o ∈ ops, ∀ row, o.1 ≠ .rowsel row) →
    runOps ops s = .next t → t.vram = s.vram)

/-- Read-out and wrap (rule R148): after any accepted `ROWSEL`, read number `n` (from 0) of the data port returns buffer
byte `n mod 320`, whatever other operations stand between, as long as none is a `ROWSEL` or a reset. -/
def Obligations.ReadOutWraps : Prop :=
  ∀ (row : BitVec 5) (ops : List Timed) (inp : Inputs) (s : State), row.toNat < 20 →
    (∀ o ∈ ops, ∀ r, o.1 ≠ .rowsel r) →
    ∃ u, exec (.rowsel row) s = .next u ∧
      (resetFree ops u = true → ∃ t, runOps (ops ++ [(.rdVram, inp)]) u = .next t ∧
        t.out.data = u.vram[(ops.map Prod.fst).count .rdVram % 320]?)

/-- The frame of the row buffer (rule R149): `ROWSEL` writes only the buffer, the cursor and the row index; nothing but
`ROWSEL` and a reset writes the buffer or the row index; nothing but those and the data port writes the cursor. -/
def Obligations.RowBufferFrame : Prop :=
  (∀ (row : BitVec 5) (s t : State), exec (.rowsel row) s = .next t →
    s.SameDecoder t ∧ t.queue = s.queue ∧ t.ctrl = s.ctrl ∧ t.mltMode = s.mltMode ∧ t.joy = s.joy ∧
      t.pktWindow = s.pktWindow ∧ t.joyId = s.joyId ∧ t.joyLock = s.joyLock) ∧
  (∀ (i : Instr) (s t : State), exec i s = .next t → isReset i s = false → (∀ row, i ≠ .rowsel row) →
    t.vram = s.vram ∧ t.vramRow = s.vramRow ∧ (i ≠ .rdVram → t.vramCursor = s.vramCursor))

/-! ### Invariants -/

/-- The reset state meets the invariants of 10_state.md rule R29 (its values are decision D7). -/
def Obligations.ResetMeetsInvariant : Prop := State.reset.Inv

/-- Every step keeps the invariants of 10_state.md rule R29 (its clause (f) is `[derived]`; clauses (a) and (c) hold by
the types of the fields). -/
def Obligations.StepKeepsInvariant : Prop :=
  ∀ s t : State, s.Inv → step s = .next t → t.Inv
end

