-- ==== Sys2Proof/Laws/Decode.lean ====
section
/-! SUPPORT. The fields of assembled words: what the decoder takes out of the words the encoder puts together
(30_encoding.md rule R75). -/

namespace Sys2Proof

/-- The address field of a `WR` word. -/
@[simp] theorem wrWord_addr (a : Addr) (d : Byte) : ((a ++ d : BitVec 24)).extractLsb' 8 16 = a := by
  apply BitVec.eq_of_getLsbD_eq
  intro j hj
  rw [BitVec.getLsbD_extractLsb', BitVec.getLsbD_append (x := a) (y := d)]
  simp [hj]

/-- The data field of a `WR` word. -/
@[simp] theorem wrWord_data (a : Addr) (d : Byte) : ((a ++ d : BitVec 24)).extractLsb' 0 8 = d := by
  apply BitVec.eq_of_getLsbD_eq
  intro j hj
  rw [BitVec.getLsbD_extractLsb', BitVec.getLsbD_append (x := a) (y := d)]
  simp [hj]

/-- A `WR` word is put together from its own fields. -/
theorem wrWord_fields (w : BitVec 24) : ((w.extractLsb' 8 16 ++ w.extractLsb' 0 8 : BitVec 24)) = w := by
  apply BitVec.eq_of_getLsbD_eq
  intro j hj
  rw [BitVec.getLsbD_append (x := w.extractLsb' 8 16) (y := w.extractLsb' 0 8)]
  by_cases h : j < 8
  · simp [h]
  · have : j - 8 < 16 := by omega
    simp [h, this, show 8 + (j - 8) = j by omega]

/-- `decodeWrite` sees the address and the data a `WR` word was made of. -/
@[simp] theorem decodeWrite_append (a : Addr) (d : Byte) : decodeWrite (a ++ d : BitVec 24) = decodeWriteAt a d := by
  simp only [decodeWrite, wrWord_addr, wrWord_data]

/-- A joypad address, taken apart (rule R67). -/
theorem joyAddr_fields : ∀ slot : BitVec 2,
    (0x1801#14 ++ slot : BitVec 16) ≠ 0x6003#16 ∧ (0x1801#14 ++ slot : BitVec 16) &&& 0xFFFC#16 = 0x6004#16 ∧
      (0x1801#14 ++ slot : BitVec 16).extractLsb' 0 2 = slot := by decide

end Sys2Proof
end

