-- ==== Sys2Proof/Laws/State.lean ====
section
/-! SUPPORT. For each update of the state, what every field holds after it. Later proofs cite these and unfold no
update. -/

namespace Sys2Proof.Machine.State

variable (s : State)

/-! ### `emit` -/

@[simp] theorem emit_pulseLock (o : Output) : (s.emit o).pulseLock = s.pulseLock := rfl
@[simp] theorem emit_strobeLock (o : Output) : (s.emit o).strobeLock = s.strobeLock := rfl
@[simp] theorem emit_packetLock (o : Output) : (s.emit o).packetLock = s.packetLock := rfl
@[simp] theorem emit_bitOffset (o : Output) : (s.emit o).bitOffset = s.bitOffset := rfl
@[simp] theorem emit_byteOffset (o : Output) : (s.emit o).byteOffset = s.byteOffset := rfl
@[simp] theorem emit_byteAcc (o : Output) : (s.emit o).byteAcc = s.byteAcc := rfl
@[simp] theorem emit_pktAcc (o : Output) : (s.emit o).pktAcc = s.pktAcc := rfl
@[simp] theorem emit_queue (o : Output) : (s.emit o).queue = s.queue := rfl
@[simp] theorem emit_ctrl (o : Output) : (s.emit o).ctrl = s.ctrl := rfl
@[simp] theorem emit_mltMode (o : Output) : (s.emit o).mltMode = s.mltMode := rfl
@[simp] theorem emit_joy (o : Output) : (s.emit o).joy = s.joy := rfl
@[simp] theorem emit_pktWindow (o : Output) : (s.emit o).pktWindow = s.pktWindow := rfl
@[simp] theorem emit_vram (o : Output) : (s.emit o).vram = s.vram := rfl
@[simp] theorem emit_vramCursor (o : Output) : (s.emit o).vramCursor = s.vramCursor := rfl
@[simp] theorem emit_vramRow (o : Output) : (s.emit o).vramRow = s.vramRow := rfl
@[simp] theorem emit_joyId (o : Output) : (s.emit o).joyId = s.joyId := rfl
@[simp] theorem emit_joyLock (o : Output) : (s.emit o).joyLock = s.joyLock := rfl
@[simp] theorem emit_inputs (o : Output) : (s.emit o).inputs = s.inputs := rfl
@[simp] theorem emit_pending (o : Output) : (s.emit o).pending = s.pending := rfl
@[simp] theorem emit_out (o : Output) : (s.emit o).out = o := rfl
@[simp] theorem emit_draws (o : Output) : (s.emit o).draws = s.draws := rfl

/-! ### `syncLocks` -/

@[simp] theorem syncLocks_pulseLock : s.syncLocks.pulseLock = false := rfl
@[simp] theorem syncLocks_strobeLock : s.syncLocks.strobeLock = true := rfl
@[simp] theorem syncLocks_packetLock : s.syncLocks.packetLock = false := rfl
@[simp] theorem syncLocks_bitOffset : s.syncLocks.bitOffset = s.bitOffset := rfl
@[simp] theorem syncLocks_byteOffset : s.syncLocks.byteOffset = s.byteOffset := rfl
@[simp] theorem syncLocks_byteAcc : s.syncLocks.byteAcc = s.byteAcc := rfl
@[simp] theorem syncLocks_pktAcc : s.syncLocks.pktAcc = s.pktAcc := rfl
@[simp] theorem syncLocks_queue : s.syncLocks.queue = s.queue := rfl
@[simp] theorem syncLocks_ctrl : s.syncLocks.ctrl = s.ctrl := rfl
@[simp] theorem syncLocks_mltMode : s.syncLocks.mltMode = s.mltMode := rfl
@[simp] theorem syncLocks_joy : s.syncLocks.joy = s.joy := rfl
@[simp] theorem syncLocks_pktWindow : s.syncLocks.pktWindow = s.pktWindow := rfl
@[simp] theorem syncLocks_vram : s.syncLocks.vram = s.vram := rfl
@[simp] theorem syncLocks_vramCursor : s.syncLocks.vramCursor = s.vramCursor := rfl
@[simp] theorem syncLocks_vramRow : s.syncLocks.vramRow = s.vramRow := rfl
@[simp] theorem syncLocks_joyId : s.syncLocks.joyId = s.joyId := rfl
@[simp] theorem syncLocks_joyLock : s.syncLocks.joyLock = s.joyLock := rfl
@[simp] theorem syncLocks_inputs : s.syncLocks.inputs = s.inputs := rfl
@[simp] theorem syncLocks_pending : s.syncLocks.pending = s.pending := rfl
@[simp] theorem syncLocks_out : s.syncLocks.out = s.out := rfl
@[simp] theorem syncLocks_draws : s.syncLocks.draws = s.draws := rfl

/-! ### `idleLocks` -/

@[simp] theorem idleLocks_pulseLock : s.idleLocks.pulseLock = true := rfl
@[simp] theorem idleLocks_strobeLock : s.idleLocks.strobeLock = s.strobeLock := rfl
@[simp] theorem idleLocks_packetLock : s.idleLocks.packetLock = false := rfl
@[simp] theorem idleLocks_bitOffset : s.idleLocks.bitOffset = s.bitOffset := rfl
@[simp] theorem idleLocks_byteOffset : s.idleLocks.byteOffset = s.byteOffset := rfl
@[simp] theorem idleLocks_byteAcc : s.idleLocks.byteAcc = s.byteAcc := rfl
@[simp] theorem idleLocks_pktAcc : s.idleLocks.pktAcc = s.pktAcc := rfl
@[simp] theorem idleLocks_queue : s.idleLocks.queue = s.queue := rfl
@[simp] theorem idleLocks_ctrl : s.idleLocks.ctrl = s.ctrl := rfl
@[simp] theorem idleLocks_mltMode : s.idleLocks.mltMode = s.mltMode := rfl
@[simp] theorem idleLocks_joy : s.idleLocks.joy = s.joy := rfl
@[simp] theorem idleLocks_pktWindow : s.idleLocks.pktWindow = s.pktWindow := rfl
@[simp] theorem idleLocks_vram : s.idleLocks.vram = s.vram := rfl
@[simp] theorem idleLocks_vramCursor : s.idleLocks.vramCursor = s.vramCursor := rfl
@[simp] theorem idleLocks_vramRow : s.idleLocks.vramRow = s.vramRow := rfl
@[simp] theorem idleLocks_joyId : s.idleLocks.joyId = s.joyId := rfl
@[simp] theorem idleLocks_joyLock : s.idleLocks.joyLock = s.joyLock := rfl
@[simp] theorem idleLocks_inputs : s.idleLocks.inputs = s.inputs := rfl
@[simp] theorem idleLocks_pending : s.idleLocks.pending = s.pending := rfl
@[simp] theorem idleLocks_out : s.idleLocks.out = s.out := rfl
@[simp] theorem idleLocks_draws : s.idleLocks.draws = s.draws := rfl

/-! ### `clearStrobe` -/

@[simp] theorem clearStrobe_pulseLock : s.clearStrobe.pulseLock = s.pulseLock := rfl
@[simp] theorem clearStrobe_strobeLock : s.clearStrobe.strobeLock = false := rfl
@[simp] theorem clearStrobe_packetLock : s.clearStrobe.packetLock = s.packetLock := rfl
@[simp] theorem clearStrobe_bitOffset : s.clearStrobe.bitOffset = s.bitOffset := rfl
@[simp] theorem clearStrobe_byteOffset : s.clearStrobe.byteOffset = s.byteOffset := rfl
@[simp] theorem clearStrobe_byteAcc : s.clearStrobe.byteAcc = s.byteAcc := rfl
@[simp] theorem clearStrobe_pktAcc : s.clearStrobe.pktAcc = s.pktAcc := rfl
@[simp] theorem clearStrobe_queue : s.clearStrobe.queue = s.queue := rfl
@[simp] theorem clearStrobe_ctrl : s.clearStrobe.ctrl = s.ctrl := rfl
@[simp] theorem clearStrobe_mltMode : s.clearStrobe.mltMode = s.mltMode := rfl
@[simp] theorem clearStrobe_joy : s.clearStrobe.joy = s.joy := rfl
@[simp] theorem clearStrobe_pktWindow : s.clearStrobe.pktWindow = s.pktWindow := rfl
@[simp] theorem clearStrobe_vram : s.clearStrobe.vram = s.vram := rfl
@[simp] theorem clearStrobe_vramCursor : s.clearStrobe.vramCursor = s.vramCursor := rfl
@[simp] theorem clearStrobe_vramRow : s.clearStrobe.vramRow = s.vramRow := rfl
@[simp] theorem clearStrobe_joyId : s.clearStrobe.joyId = s.joyId := rfl
@[simp] theorem clearStrobe_joyLock : s.clearStrobe.joyLock = s.joyLock := rfl
@[simp] theorem clearStrobe_inputs : s.clearStrobe.inputs = s.inputs := rfl
@[simp] theorem clearStrobe_pending : s.clearStrobe.pending = s.pending := rfl
@[simp] theorem clearStrobe_out : s.clearStrobe.out = s.out := rfl
@[simp] theorem clearStrobe_draws : s.clearStrobe.draws = s.draws := rfl

/-! ### `setStrobe` -/

@[simp] theorem setStrobe_pulseLock : s.setStrobe.pulseLock = s.pulseLock := rfl
@[simp] theorem setStrobe_strobeLock : s.setStrobe.strobeLock = true := rfl
@[simp] theorem setStrobe_packetLock : s.setStrobe.packetLock = s.packetLock := rfl
@[simp] theorem setStrobe_bitOffset : s.setStrobe.bitOffset = s.bitOffset := rfl
@[simp] theorem setStrobe_byteOffset : s.setStrobe.byteOffset = s.byteOffset := rfl
@[simp] theorem setStrobe_byteAcc : s.setStrobe.byteAcc = s.byteAcc := rfl
@[simp] theorem setStrobe_pktAcc : s.setStrobe.pktAcc = s.pktAcc := rfl
@[simp] theorem setStrobe_queue : s.setStrobe.queue = s.queue := rfl
@[simp] theorem setStrobe_ctrl : s.setStrobe.ctrl = s.ctrl := rfl
@[simp] theorem setStrobe_mltMode : s.setStrobe.mltMode = s.mltMode := rfl
@[simp] theorem setStrobe_joy : s.setStrobe.joy = s.joy := rfl
@[simp] theorem setStrobe_pktWindow : s.setStrobe.pktWindow = s.pktWindow := rfl
@[simp] theorem setStrobe_vram : s.setStrobe.vram = s.vram := rfl
@[simp] theorem setStrobe_vramCursor : s.setStrobe.vramCursor = s.vramCursor := rfl
@[simp] theorem setStrobe_vramRow : s.setStrobe.vramRow = s.vramRow := rfl
@[simp] theorem setStrobe_joyId : s.setStrobe.joyId = s.joyId := rfl
@[simp] theorem setStrobe_joyLock : s.setStrobe.joyLock = s.joyLock := rfl
@[simp] theorem setStrobe_inputs : s.setStrobe.inputs = s.inputs := rfl
@[simp] theorem setStrobe_pending : s.setStrobe.pending = s.pending := rfl
@[simp] theorem setStrobe_out : s.setStrobe.out = s.out := rfl
@[simp] theorem setStrobe_draws : s.setStrobe.draws = s.draws := rfl

/-! ### `setPacket` -/

@[simp] theorem setPacket_pulseLock : s.setPacket.pulseLock = s.pulseLock := rfl
@[simp] theorem setPacket_strobeLock : s.setPacket.strobeLock = s.strobeLock := rfl
@[simp] theorem setPacket_packetLock : s.setPacket.packetLock = true := rfl
@[simp] theorem setPacket_bitOffset : s.setPacket.bitOffset = s.bitOffset := rfl
@[simp] theorem setPacket_byteOffset : s.setPacket.byteOffset = s.byteOffset := rfl
@[simp] theorem setPacket_byteAcc : s.setPacket.byteAcc = s.byteAcc := rfl
@[simp] theorem setPacket_pktAcc : s.setPacket.pktAcc = s.pktAcc := rfl
@[simp] theorem setPacket_queue : s.setPacket.queue = s.queue := rfl
@[simp] theorem setPacket_ctrl : s.setPacket.ctrl = s.ctrl := rfl
@[simp] theorem setPacket_mltMode : s.setPacket.mltMode = s.mltMode := rfl
@[simp] theorem setPacket_joy : s.setPacket.joy = s.joy := rfl
@[simp] theorem setPacket_pktWindow : s.setPacket.pktWindow = s.pktWindow := rfl
@[simp] theorem setPacket_vram : s.setPacket.vram = s.vram := rfl
@[simp] theorem setPacket_vramCursor : s.setPacket.vramCursor = s.vramCursor := rfl
@[simp] theorem setPacket_vramRow : s.setPacket.vramRow = s.vramRow := rfl
@[simp] theorem setPacket_joyId : s.setPacket.joyId = s.joyId := rfl
@[simp] theorem setPacket_joyLock : s.setPacket.joyLock = s.joyLock := rfl
@[simp] theorem setPacket_inputs : s.setPacket.inputs = s.inputs := rfl
@[simp] theorem setPacket_pending : s.setPacket.pending = s.pending := rfl
@[simp] theorem setPacket_out : s.setPacket.out = s.out := rfl
@[simp] theorem setPacket_draws : s.setPacket.draws = s.draws := rfl

/-! ### `clearOffsets` -/

@[simp] theorem clearOffsets_pulseLock : s.clearOffsets.pulseLock = s.pulseLock := rfl
@[simp] theorem clearOffsets_strobeLock : s.clearOffsets.strobeLock = s.strobeLock := rfl
@[simp] theorem clearOffsets_packetLock : s.clearOffsets.packetLock = s.packetLock := rfl
@[simp] theorem clearOffsets_bitOffset : s.clearOffsets.bitOffset = 0 := rfl
@[simp] theorem clearOffsets_byteOffset : s.clearOffsets.byteOffset = 0 := rfl
@[simp] theorem clearOffsets_byteAcc : s.clearOffsets.byteAcc = s.byteAcc := rfl
@[simp] theorem clearOffsets_pktAcc : s.clearOffsets.pktAcc = s.pktAcc := rfl
@[simp] theorem clearOffsets_queue : s.clearOffsets.queue = s.queue := rfl
@[simp] theorem clearOffsets_ctrl : s.clearOffsets.ctrl = s.ctrl := rfl
@[simp] theorem clearOffsets_mltMode : s.clearOffsets.mltMode = s.mltMode := rfl
@[simp] theorem clearOffsets_joy : s.clearOffsets.joy = s.joy := rfl
@[simp] theorem clearOffsets_pktWindow : s.clearOffsets.pktWindow = s.pktWindow := rfl
@[simp] theorem clearOffsets_vram : s.clearOffsets.vram = s.vram := rfl
@[simp] theorem clearOffsets_vramCursor : s.clearOffsets.vramCursor = s.vramCursor := rfl
@[simp] theorem clearOffsets_vramRow : s.clearOffsets.vramRow = s.vramRow := rfl
@[simp] theorem clearOffsets_joyId : s.clearOffsets.joyId = s.joyId := rfl
@[simp] theorem clearOffsets_joyLock : s.clearOffsets.joyLock = s.joyLock := rfl
@[simp] theorem clearOffsets_inputs : s.clearOffsets.inputs = s.inputs := rfl
@[simp] theorem clearOffsets_pending : s.clearOffsets.pending = s.pending := rfl
@[simp] theorem clearOffsets_out : s.clearOffsets.out = s.out := rfl
@[simp] theorem clearOffsets_draws : s.clearOffsets.draws = s.draws := rfl

/-! ### `enqueue` -/

@[simp] theorem enqueue_pulseLock (p : Packet) : (s.enqueue p).pulseLock = s.pulseLock := rfl
@[simp] theorem enqueue_strobeLock (p : Packet) : (s.enqueue p).strobeLock = s.strobeLock := rfl
@[simp] theorem enqueue_packetLock (p : Packet) : (s.enqueue p).packetLock = s.packetLock := rfl
@[simp] theorem enqueue_bitOffset (p : Packet) : (s.enqueue p).bitOffset = s.bitOffset := rfl
@[simp] theorem enqueue_byteOffset (p : Packet) : (s.enqueue p).byteOffset = s.byteOffset := rfl
@[simp] theorem enqueue_byteAcc (p : Packet) : (s.enqueue p).byteAcc = s.byteAcc := rfl
@[simp] theorem enqueue_pktAcc (p : Packet) : (s.enqueue p).pktAcc = s.pktAcc := rfl
@[simp] theorem enqueue_queue (p : Packet) : (s.enqueue p).queue = if s.queue.length < queueCapacity then s.queue ++ [p] else s.queue := rfl
@[simp] theorem enqueue_ctrl (p : Packet) : (s.enqueue p).ctrl = s.ctrl := rfl
@[simp] theorem enqueue_mltMode (p : Packet) : (s.enqueue p).mltMode = s.mltMode := rfl
@[simp] theorem enqueue_joy (p : Packet) : (s.enqueue p).joy = s.joy := rfl
@[simp] theorem enqueue_pktWindow (p : Packet) : (s.enqueue p).pktWindow = s.pktWindow := rfl
@[simp] theorem enqueue_vram (p : Packet) : (s.enqueue p).vram = s.vram := rfl
@[simp] theorem enqueue_vramCursor (p : Packet) : (s.enqueue p).vramCursor = s.vramCursor := rfl
@[simp] theorem enqueue_vramRow (p : Packet) : (s.enqueue p).vramRow = s.vramRow := rfl
@[simp] theorem enqueue_joyId (p : Packet) : (s.enqueue p).joyId = s.joyId := rfl
@[simp] theorem enqueue_joyLock (p : Packet) : (s.enqueue p).joyLock = s.joyLock := rfl
@[simp] theorem enqueue_inputs (p : Packet) : (s.enqueue p).inputs = s.inputs := rfl
@[simp] theorem enqueue_pending (p : Packet) : (s.enqueue p).pending = s.pending := rfl
@[simp] theorem enqueue_out (p : Packet) : (s.enqueue p).out = s.out := rfl
@[simp] theorem enqueue_draws (p : Packet) : (s.enqueue p).draws = s.draws := rfl

/-! ### `setMode` -/

@[simp] theorem setMode_pulseLock (m : BitVec 2) : (s.setMode m).pulseLock = s.pulseLock := rfl
@[simp] theorem setMode_strobeLock (m : BitVec 2) : (s.setMode m).strobeLock = s.strobeLock := rfl
@[simp] theorem setMode_packetLock (m : BitVec 2) : (s.setMode m).packetLock = s.packetLock := rfl
@[simp] theorem setMode_bitOffset (m : BitVec 2) : (s.setMode m).bitOffset = s.bitOffset := rfl
@[simp] theorem setMode_byteOffset (m : BitVec 2) : (s.setMode m).byteOffset = s.byteOffset := rfl
@[simp] theorem setMode_byteAcc (m : BitVec 2) : (s.setMode m).byteAcc = s.byteAcc := rfl
@[simp] theorem setMode_pktAcc (m : BitVec 2) : (s.setMode m).pktAcc = s.pktAcc := rfl
@[simp] theorem setMode_queue (m : BitVec 2) : (s.setMode m).queue = s.queue := rfl
@[simp] theorem setMode_ctrl (m : BitVec 2) : (s.setMode m).ctrl = s.ctrl := rfl
@[simp] theorem setMode_mltMode (m : BitVec 2) : (s.setMode m).mltMode = m := rfl
@[simp] theorem setMode_joy (m : BitVec 2) : (s.setMode m).joy = s.joy := rfl
@[simp] theorem setMode_pktWindow (m : BitVec 2) : (s.setMode m).pktWindow = s.pktWindow := rfl
@[simp] theorem setMode_vram (m : BitVec 2) : (s.setMode m).vram = s.vram := rfl
@[simp] theorem setMode_vramCursor (m : BitVec 2) : (s.setMode m).vramCursor = s.vramCursor := rfl
@[simp] theorem setMode_vramRow (m : BitVec 2) : (s.setMode m).vramRow = s.vramRow := rfl
@[simp] theorem setMode_joyId (m : BitVec 2) : (s.setMode m).joyId = s.joyId &&& m := rfl
@[simp] theorem setMode_joyLock (m : BitVec 2) : (s.setMode m).joyLock = s.joyLock := rfl
@[simp] theorem setMode_inputs (m : BitVec 2) : (s.setMode m).inputs = s.inputs := rfl
@[simp] theorem setMode_pending (m : BitVec 2) : (s.setMode m).pending = s.pending := rfl
@[simp] theorem setMode_out (m : BitVec 2) : (s.setMode m).out = s.out := rfl
@[simp] theorem setMode_draws (m : BitVec 2) : (s.setMode m).draws = s.draws := rfl

/-! ### `selectRow` -/

@[simp] theorem selectRow_pulseLock (row : BitVec 5) : (s.selectRow row).pulseLock = s.pulseLock := rfl
@[simp] theorem selectRow_strobeLock (row : BitVec 5) : (s.selectRow row).strobeLock = s.strobeLock := rfl
@[simp] theorem selectRow_packetLock (row : BitVec 5) : (s.selectRow row).packetLock = s.packetLock := rfl
@[simp] theorem selectRow_bitOffset (row : BitVec 5) : (s.selectRow row).bitOffset = s.bitOffset := rfl
@[simp] theorem selectRow_byteOffset (row : BitVec 5) : (s.selectRow row).byteOffset = s.byteOffset := rfl
@[simp] theorem selectRow_byteAcc (row : BitVec 5) : (s.selectRow row).byteAcc = s.byteAcc := rfl
@[simp] theorem selectRow_pktAcc (row : BitVec 5) : (s.selectRow row).pktAcc = s.pktAcc := rfl
@[simp] theorem selectRow_queue (row : BitVec 5) : (s.selectRow row).queue = s.queue := rfl
@[simp] theorem selectRow_ctrl (row : BitVec 5) : (s.selectRow row).ctrl = s.ctrl := rfl
@[simp] theorem selectRow_mltMode (row : BitVec 5) : (s.selectRow row).mltMode = s.mltMode := rfl
@[simp] theorem selectRow_joy (row : BitVec 5) : (s.selectRow row).joy = s.joy := rfl
@[simp] theorem selectRow_pktWindow (row : BitVec 5) : (s.selectRow row).pktWindow = s.pktWindow := rfl
@[simp] theorem selectRow_vram (row : BitVec 5) : (s.selectRow row).vram = renderStrip fun x y => colourIndex (s.stripPixel row x y) := rfl
@[simp] theorem selectRow_vramCursor (row : BitVec 5) : (s.selectRow row).vramCursor = 0 := rfl
@[simp] theorem selectRow_vramRow (row : BitVec 5) : (s.selectRow row).vramRow = row := rfl
@[simp] theorem selectRow_joyId (row : BitVec 5) : (s.selectRow row).joyId = s.joyId := rfl
@[simp] theorem selectRow_joyLock (row : BitVec 5) : (s.selectRow row).joyLock = s.joyLock := rfl
@[simp] theorem selectRow_inputs (row : BitVec 5) : (s.selectRow row).inputs = s.inputs := rfl
@[simp] theorem selectRow_pending (row : BitVec 5) : (s.selectRow row).pending = s.pending := rfl
@[simp] theorem selectRow_out (row : BitVec 5) : (s.selectRow row).out = s.out := rfl
@[simp] theorem selectRow_draws (row : BitVec 5) : (s.selectRow row).draws = s.draws + drawsOfRow row := rfl

/-! ### `internalReset` -/

@[simp] theorem internalReset_pulseLock : s.internalReset.pulseLock = true := rfl
@[simp] theorem internalReset_strobeLock : s.internalReset.strobeLock = false := rfl
@[simp] theorem internalReset_packetLock : s.internalReset.packetLock = false := rfl
@[simp] theorem internalReset_bitOffset : s.internalReset.bitOffset = 0 := rfl
@[simp] theorem internalReset_byteOffset : s.internalReset.byteOffset = 0 := rfl
@[simp] theorem internalReset_byteAcc : s.internalReset.byteAcc = 0x00#8 := rfl
@[simp] theorem internalReset_pktAcc : s.internalReset.pktAcc = Vector.replicate 16 0x00#8 := rfl
@[simp] theorem internalReset_queue : s.internalReset.queue = [] := rfl
@[simp] theorem internalReset_ctrl : s.internalReset.ctrl = 0x00#8 := rfl
@[simp] theorem internalReset_mltMode : s.internalReset.mltMode = 0#2 := rfl
@[simp] theorem internalReset_joy : s.internalReset.joy = Vector.replicate 4 joyReset := rfl
@[simp] theorem internalReset_pktWindow : s.internalReset.pktWindow = Vector.replicate 16 0x00#8 := rfl
@[simp] theorem internalReset_vram : s.internalReset.vram = Vector.replicate 320 0x00#8 := rfl
@[simp] theorem internalReset_vramCursor : s.internalReset.vramCursor = 0 := rfl
@[simp] theorem internalReset_vramRow : s.internalReset.vramRow = 0#5 := rfl
@[simp] theorem internalReset_joyId : s.internalReset.joyId = 0#2 := rfl
@[simp] theorem internalReset_joyLock : s.internalReset.joyLock = false := rfl
@[simp] theorem internalReset_inputs : s.internalReset.inputs = s.inputs := rfl
@[simp] theorem internalReset_pending : s.internalReset.pending = s.pending := rfl
@[simp] theorem internalReset_out : s.internalReset.out = s.out := rfl
@[simp] theorem internalReset_draws : s.internalReset.draws = s.draws := rfl

/-! ### `muxPart` -/

@[simp] theorem muxPart_pulseLock (p15 p14 : Bool) : (s.muxPart p15 p14).pulseLock = s.pulseLock := rfl
@[simp] theorem muxPart_strobeLock (p15 p14 : Bool) : (s.muxPart p15 p14).strobeLock = s.strobeLock := rfl
@[simp] theorem muxPart_packetLock (p15 p14 : Bool) : (s.muxPart p15 p14).packetLock = s.packetLock := rfl
@[simp] theorem muxPart_bitOffset (p15 p14 : Bool) : (s.muxPart p15 p14).bitOffset = s.bitOffset := rfl
@[simp] theorem muxPart_byteOffset (p15 p14 : Bool) : (s.muxPart p15 p14).byteOffset = s.byteOffset := rfl
@[simp] theorem muxPart_byteAcc (p15 p14 : Bool) : (s.muxPart p15 p14).byteAcc = s.byteAcc := rfl
@[simp] theorem muxPart_pktAcc (p15 p14 : Bool) : (s.muxPart p15 p14).pktAcc = s.pktAcc := rfl
@[simp] theorem muxPart_queue (p15 p14 : Bool) : (s.muxPart p15 p14).queue = s.queue := rfl
@[simp] theorem muxPart_ctrl (p15 p14 : Bool) : (s.muxPart p15 p14).ctrl = s.ctrl := rfl
@[simp] theorem muxPart_mltMode (p15 p14 : Bool) : (s.muxPart p15 p14).mltMode = s.mltMode := rfl
@[simp] theorem muxPart_joy (p15 p14 : Bool) : (s.muxPart p15 p14).joy = s.joy := rfl
@[simp] theorem muxPart_pktWindow (p15 p14 : Bool) : (s.muxPart p15 p14).pktWindow = s.pktWindow := rfl
@[simp] theorem muxPart_vram (p15 p14 : Bool) : (s.muxPart p15 p14).vram = s.vram := rfl
@[simp] theorem muxPart_vramCursor (p15 p14 : Bool) : (s.muxPart p15 p14).vramCursor = s.vramCursor := rfl
@[simp] theorem muxPart_vramRow (p15 p14 : Bool) : (s.muxPart p15 p14).vramRow = s.vramRow := rfl
@[simp] theorem muxPart_joyId (p15 p14 : Bool) : (s.muxPart p15 p14).joyId = if s.advances p15 p14 then nextSlot s.joyId s.mltMode else s.joyId := rfl
@[simp] theorem muxPart_joyLock (p15 p14 : Bool) : (s.muxPart p15 p14).joyLock = s.joyLockAfter p15 p14 := rfl
@[simp] theorem muxPart_inputs (p15 p14 : Bool) : (s.muxPart p15 p14).inputs = s.inputs := rfl
@[simp] theorem muxPart_pending (p15 p14 : Bool) : (s.muxPart p15 p14).pending = s.pending := rfl
@[simp] theorem muxPart_out (p15 p14 : Bool) : (s.muxPart p15 p14).out = s.out := rfl
@[simp] theorem muxPart_draws (p15 p14 : Bool) : (s.muxPart p15 p14).draws = s.draws := rfl

end Sys2Proof.Machine.State
end

