-- ==== Sys2Proof/Laws/Ops.lean ====
section
/-! SUPPORT. What each shared operation can do, said once: the composed updates as one record update, the decoder's
tests (40_serial_decoder.md rule R105) one lemma each, the mux, the queue, the boot injection, and the values the
operations compute. -/

namespace Sys2Proof.Machine

variable (s : State)

/-! ### Composed updates -/

theorem State.pulse_eq :
    s.pulse = { s with pulseLock := false, strobeLock := true, packetLock := false,
                       bitOffset := 0, byteOffset := 0 } := rfl

theorem State.violation_eq :
    s.violation = { s with packetLock := false, pulseLock := true, bitOffset := 0, byteOffset := 0 } := rfl

theorem State.commit_eq :
    s.commit = { s with
      queue := if s.queue.length < queueCapacity then s.queue ++ [s.pktAcc] else s.queue,
      packetLock := false, pulseLock := true } := rfl

theorem State.packetComplete_eq : s.packetComplete = { s with byteOffset := 0, packetLock := true } := rfl

/-! ### Bit consumption: within a byte, at the end of a byte, at the end of a packet -/

theorem State.consumeBit_within_byte (b : Bool) (h : s.bitOffset.val < 7) :
    s.consumeBit b = { s with
      byteAcc := s.byteAcc.shiftConcat b, strobeLock := true, bitOffset := s.bitOffset + 1 } := by
  simp [State.consumeBit, State.setStrobe, h]

theorem State.consumeBit_ends_byte (b : Bool) (h : s.bitOffset = 7) (h' : s.byteOffset.val < 15) :
    s.consumeBit b = { s with
      byteAcc := s.byteAcc.shiftConcat b, strobeLock := true, bitOffset := 0,
      pktAcc := s.pktAcc.set s.byteOffset.val (s.byteAcc.shiftConcat b),
      byteOffset := s.byteOffset + 1 } := by
  simp [State.consumeBit, State.byteCommit, State.setStrobe, h, h']

theorem State.consumeBit_ends_packet (b : Bool) (h : s.bitOffset = 7) (h' : s.byteOffset = 15) :
    s.consumeBit b = { s with
      byteAcc := s.byteAcc.shiftConcat b, strobeLock := true, bitOffset := 0,
      pktAcc := s.pktAcc.set 15 (s.byteAcc.shiftConcat b), byteOffset := 0, packetLock := true } := by
  simp [State.consumeBit, State.byteCommit, State.packetComplete, State.setStrobe, State.setPacket, h, h']

/-! ### The decoder part, by the test that applies -/

theorem State.decoderPart_pulse : s.decoderPart false false = s.pulse := by simp [State.decoderPart]

theorem State.decoderPart_locked {p15 p14 : Bool} (h : (p15 || p14) = true) (hp : s.pulseLock = true) :
    s.decoderPart p15 p14 = s := by
  cases p15 <;> cases p14 <;> simp_all [State.decoderPart]

theorem State.decoderPart_bothHigh (hp : s.pulseLock = false) : s.decoderPart true true = s.clearStrobe := by
  simp [State.decoderPart, hp]

theorem State.decoderPart_violation {p15 p14 : Bool} (h : p15 ≠ p14) (hp : s.pulseLock = false)
    (hs : s.strobeLock = true) : s.decoderPart p15 p14 = s.violation := by
  cases p15 <;> cases p14 <;> simp_all [State.decoderPart]

theorem State.decoderPart_commit (hp : s.pulseLock = false) (hs : s.strobeLock = false)
    (hk : s.packetLock = true) : s.decoderPart true false = s.commit := by
  simp [State.decoderPart, hp, hs, hk]

theorem State.decoderPart_ignored (hp : s.pulseLock = false) (hs : s.strobeLock = false)
    (hk : s.packetLock = true) : s.decoderPart false true = s := by
  simp [State.decoderPart, hp, hs, hk]

theorem State.decoderPart_consume {p15 p14 : Bool} (h : p15 ≠ p14) (hp : s.pulseLock = false)
    (hs : s.strobeLock = false) (hk : s.packetLock = false) :
    s.decoderPart p15 p14 = s.consumeBit p14 := by
  cases p15 <;> cases p14 <;> simp_all [State.decoderPart]

/-! ### The joypad mux -/

/-- The release pattern is never both-high (42_joypad_mux.md rule R127). -/
theorem releasePattern_ne_bothHigh : releasePattern ≠ (true, true) := by
  unfold releasePattern; split <;> simp

/-- After both-high `joy_lock` is set (42_joypad_mux.md rule R126). -/
@[simp] theorem State.joyLockAfter_bothHigh : s.joyLockAfter true true = true := by
  simp [State.joyLockAfter, State.advances, releasePattern_ne_bothHigh.symm]

/-- Only the release pattern changes `joy_lock` on the other presentations (rule R127). -/
theorem State.joyLockAfter_notBothHigh {p15 p14 : Bool} (h : (p15 && p14) = false) :
    s.joyLockAfter p15 p14 = if (p15, p14) = releasePattern then false else s.joyLock := by
  simp [State.joyLockAfter, State.advances, h]

/-- Both-high advances the selection exactly while `joy_lock` is clear (rule R126). -/
@[simp] theorem State.advances_bothHigh : s.advances true true = !s.joyLock := by simp [State.advances]

/-- No other presentation advances the selection. -/
theorem State.advances_notBothHigh {p15 p14 : Bool} (h : (p15 && p14) = false) : s.advances p15 p14 = false := by
  simp [State.advances, h]

/-! ### What a presentation of the pins leaves alone (40_serial_decoder.md rule R107) -/

@[simp] theorem State.consumeBit_ctrl (b : Bool) : (s.consumeBit b).ctrl = s.ctrl := by
  simp only [State.consumeBit, State.byteCommit]; (repeat' split) <;> rfl

@[simp] theorem State.decoderPart_ctrl (p15 p14 : Bool) : (s.decoderPart p15 p14).ctrl = s.ctrl := by
  simp only [State.decoderPart]; (repeat' split) <;> first | rfl | exact State.consumeBit_ctrl s _

@[simp] theorem State.consumeBit_mltMode (b : Bool) : (s.consumeBit b).mltMode = s.mltMode := by
  simp only [State.consumeBit, State.byteCommit]; (repeat' split) <;> rfl

@[simp] theorem State.decoderPart_mltMode (p15 p14 : Bool) : (s.decoderPart p15 p14).mltMode = s.mltMode := by
  simp only [State.decoderPart]; (repeat' split) <;> first | rfl | exact State.consumeBit_mltMode s _

@[simp] theorem State.consumeBit_joy (b : Bool) : (s.consumeBit b).joy = s.joy := by
  simp only [State.consumeBit, State.byteCommit]; (repeat' split) <;> rfl

@[simp] theorem State.decoderPart_joy (p15 p14 : Bool) : (s.decoderPart p15 p14).joy = s.joy := by
  simp only [State.decoderPart]; (repeat' split) <;> first | rfl | exact State.consumeBit_joy s _

@[simp] theorem State.consumeBit_pktWindow (b : Bool) : (s.consumeBit b).pktWindow = s.pktWindow := by
  simp only [State.consumeBit, State.byteCommit]; (repeat' split) <;> rfl

@[simp] theorem State.decoderPart_pktWindow (p15 p14 : Bool) : (s.decoderPart p15 p14).pktWindow = s.pktWindow := by
  simp only [State.decoderPart]; (repeat' split) <;> first | rfl | exact State.consumeBit_pktWindow s _

@[simp] theorem State.consumeBit_vram (b : Bool) : (s.consumeBit b).vram = s.vram := by
  simp only [State.consumeBit, State.byteCommit]; (repeat' split) <;> rfl

@[simp] theorem State.decoderPart_vram (p15 p14 : Bool) : (s.decoderPart p15 p14).vram = s.vram := by
  simp only [State.decoderPart]; (repeat' split) <;> first | rfl | exact State.consumeBit_vram s _

@[simp] theorem State.consumeBit_vramCursor (b : Bool) : (s.consumeBit b).vramCursor = s.vramCursor := by
  simp only [State.consumeBit, State.byteCommit]; (repeat' split) <;> rfl

@[simp] theorem State.decoderPart_vramCursor (p15 p14 : Bool) : (s.decoderPart p15 p14).vramCursor = s.vramCursor := by
  simp only [State.decoderPart]; (repeat' split) <;> first | rfl | exact State.consumeBit_vramCursor s _

@[simp] theorem State.consumeBit_vramRow (b : Bool) : (s.consumeBit b).vramRow = s.vramRow := by
  simp only [State.consumeBit, State.byteCommit]; (repeat' split) <;> rfl

@[simp] theorem State.decoderPart_vramRow (p15 p14 : Bool) : (s.decoderPart p15 p14).vramRow = s.vramRow := by
  simp only [State.decoderPart]; (repeat' split) <;> first | rfl | exact State.consumeBit_vramRow s _

@[simp] theorem State.consumeBit_inputs (b : Bool) : (s.consumeBit b).inputs = s.inputs := by
  simp only [State.consumeBit, State.byteCommit]; (repeat' split) <;> rfl

@[simp] theorem State.decoderPart_inputs (p15 p14 : Bool) : (s.decoderPart p15 p14).inputs = s.inputs := by
  simp only [State.decoderPart]; (repeat' split) <;> first | rfl | exact State.consumeBit_inputs s _

@[simp] theorem State.consumeBit_pending (b : Bool) : (s.consumeBit b).pending = s.pending := by
  simp only [State.consumeBit, State.byteCommit]; (repeat' split) <;> rfl

@[simp] theorem State.decoderPart_pending (p15 p14 : Bool) : (s.decoderPart p15 p14).pending = s.pending := by
  simp only [State.decoderPart]; (repeat' split) <;> first | rfl | exact State.consumeBit_pending s _

@[simp] theorem State.consumeBit_draws (b : Bool) : (s.consumeBit b).draws = s.draws := by
  simp only [State.consumeBit, State.byteCommit]; (repeat' split) <;> rfl

@[simp] theorem State.decoderPart_draws (p15 p14 : Bool) : (s.decoderPart p15 p14).draws = s.draws := by
  simp only [State.decoderPart]; (repeat' split) <;> first | rfl | exact State.consumeBit_draws s _

@[simp] theorem State.consumeBit_joyId (b : Bool) : (s.consumeBit b).joyId = s.joyId := by
  simp only [State.consumeBit, State.byteCommit]; (repeat' split) <;> rfl

@[simp] theorem State.decoderPart_joyId (p15 p14 : Bool) : (s.decoderPart p15 p14).joyId = s.joyId := by
  simp only [State.decoderPart]; (repeat' split) <;> first | rfl | exact State.consumeBit_joyId s _

@[simp] theorem State.consumeBit_joyLock (b : Bool) : (s.consumeBit b).joyLock = s.joyLock := by
  simp only [State.consumeBit, State.byteCommit]; (repeat' split) <;> rfl

@[simp] theorem State.decoderPart_joyLock (p15 p14 : Bool) : (s.decoderPart p15 p14).joyLock = s.joyLock := by
  simp only [State.decoderPart]; (repeat' split) <;> first | rfl | exact State.consumeBit_joyLock s _

@[simp] theorem State.consumeBit_out (b : Bool) : (s.consumeBit b).out = s.out := by
  simp only [State.consumeBit, State.byteCommit]; (repeat' split) <;> rfl

@[simp] theorem State.decoderPart_out (p15 p14 : Bool) : (s.decoderPart p15 p14).out = s.out := by
  simp only [State.decoderPart]; (repeat' split) <;> first | rfl | exact State.consumeBit_out s _

@[simp] theorem State.presentPins_ctrl (p15 p14 : Bool) : (s.presentPins p15 p14).ctrl = s.ctrl := by
  simp [State.presentPins]

@[simp] theorem State.presentPins_mltMode (p15 p14 : Bool) : (s.presentPins p15 p14).mltMode = s.mltMode := by
  simp [State.presentPins]

@[simp] theorem State.presentPins_joy (p15 p14 : Bool) : (s.presentPins p15 p14).joy = s.joy := by
  simp [State.presentPins]

@[simp] theorem State.presentPins_pktWindow (p15 p14 : Bool) : (s.presentPins p15 p14).pktWindow = s.pktWindow := by
  simp [State.presentPins]

@[simp] theorem State.presentPins_vram (p15 p14 : Bool) : (s.presentPins p15 p14).vram = s.vram := by
  simp [State.presentPins]

@[simp] theorem State.presentPins_vramCursor (p15 p14 : Bool) : (s.presentPins p15 p14).vramCursor = s.vramCursor := by
  simp [State.presentPins]

@[simp] theorem State.presentPins_vramRow (p15 p14 : Bool) : (s.presentPins p15 p14).vramRow = s.vramRow := by
  simp [State.presentPins]

@[simp] theorem State.presentPins_inputs (p15 p14 : Bool) : (s.presentPins p15 p14).inputs = s.inputs := by
  simp [State.presentPins]

@[simp] theorem State.presentPins_pending (p15 p14 : Bool) : (s.presentPins p15 p14).pending = s.pending := by
  simp [State.presentPins]

@[simp] theorem State.presentPins_draws (p15 p14 : Bool) : (s.presentPins p15 p14).draws = s.draws := by
  simp [State.presentPins]

@[simp] theorem State.presentPins_out (p15 p14 : Bool) : (s.presentPins p15 p14).out = Output.silent := by
  simp [State.presentPins]

@[simp] theorem State.consumeBit_queue (b : Bool) : (s.consumeBit b).queue = s.queue := by
  simp only [State.consumeBit, State.byteCommit]; (repeat' split) <;> rfl

/-- All that the decoder part of a presentation can do to the queue: the commit edge, in the one state where it commits,
enqueues the assembled packet; nothing else touches the queue (rule R98, rule R107). -/
theorem State.decoderPart_queue (p15 p14 : Bool) :
    (s.decoderPart p15 p14).queue =
      if p15 = true ∧ p14 = false ∧ s.pulseLock = false ∧ s.strobeLock = false ∧ s.packetLock = true
        then (s.enqueue s.pktAcc).queue else s.queue := by
  simp only [State.decoderPart]
  cases p15 <;> cases p14 <;> cases s.pulseLock <;> cases s.strobeLock <;> cases s.packetLock <;>
    first | rfl | simp

/-- The same of a whole presentation. -/
theorem State.presentPins_queue (p15 p14 : Bool) :
    (s.presentPins p15 p14).queue =
      if p15 = true ∧ p14 = false ∧ s.pulseLock = false ∧ s.strobeLock = false ∧ s.packetLock = true
        then (s.enqueue s.pktAcc).queue else s.queue := by
  rw [State.presentPins, State.decoderPart_queue]; rfl

/-- Only the commit edge touches the queue. -/
theorem State.decoderPart_queue_of_not_commit {p15 p14 : Bool} (h : (p15 && !p14) = false) :
    (s.decoderPart p15 p14).queue = s.queue := by
  rw [State.decoderPart_queue, if_neg]
  rintro ⟨rfl, rfl, -⟩; simp at h

@[simp] theorem State.presentPins_joyLock (p15 p14 : Bool) :
    (s.presentPins p15 p14).joyLock = s.joyLockAfter p15 p14 := by
  simp [State.presentPins, State.joyLockAfter, State.advances]

@[simp] theorem State.presentPins_joyId (p15 p14 : Bool) :
    (s.presentPins p15 p14).joyId = if s.advances p15 p14 then nextSlot s.joyId s.mltMode else s.joyId := by
  simp [State.presentPins, State.advances]

/-! ### The packet queue -/

@[simp] theorem State.popAndLatch_empty (h : s.queue = []) : s.popAndLatch = (false, s) := by
  simp [State.popAndLatch, h]

@[simp] theorem State.popAndLatch_front {p : Packet} {rest : List Packet} (h : s.queue = p :: rest) :
    s.popAndLatch = (true, { s with pktWindow := p, queue := rest }) := by
  simp [State.popAndLatch, h]

/-- Whether a status read finds a packet depends on the queue alone. -/
theorem State.popAndLatch_nonEmpty : s.popAndLatch.1 = !s.queue.isEmpty := by
  simp only [State.popAndLatch]; split <;> simp_all

/-- The queue never grows past its capacity (41_packet_fifo.md rule R114). -/
theorem State.enqueue_length_le (p : Packet) (h : s.queue.length ≤ queueCapacity) :
    (s.enqueue p).queue.length ≤ queueCapacity := by
  simp only [State.enqueue_queue]
  split
  · simpa using ‹_›
  · exact h

/-- No presentation takes the queue past its capacity. -/
theorem State.decoderPart_queue_le (p15 p14 : Bool) (h : s.queue.length ≤ queueCapacity) :
    (s.decoderPart p15 p14).queue.length ≤ queueCapacity := by
  rw [State.decoderPart_queue]
  split
  · exact s.enqueue_length_le s.pktAcc h
  · exact h

/-- Boot injection changes the queue alone, and into an empty queue puts the six boot packets in order
(41_packet_fifo.md rule R115). -/
theorem State.bootInject_eq (h : s.queue = []) :
    s.bootInject = { s with queue := (List.finRange 6).map (bootPacket s.inputs.hdr) } := by
  have e : List.finRange 6 = [0, 1, 2, 3, 4, 5] := by decide
  simp [State.bootInject, e, State.enqueue, h, queueCapacity]

/-! ### Values -/

@[simp] theorem quant_white : quant 0xFFFFFF#24 = 3#2 := by simp [quant]

@[simp] theorem quant_black : quant 0x000000#24 = 0#2 := by simp [quant]

@[simp] theorem colourIndex_white : colourIndex 0xFFFFFF#24 = 0#2 := by simp [colourIndex]

@[simp] theorem colourIndex_black : colourIndex 0x000000#24 = 3#2 := by simp [colourIndex]

/-- The reserved mode is never stored (10_state.md rule R20). -/
theorem normMode_ne_reserved : ∀ m : BitVec 2, normMode m ≠ 2#2 := by decide

/-- The next selection id is below the slot count (42_joypad_mux.md rule R131). -/
theorem nextSlot_lt : ∀ id m : BitVec 2, (nextSlot id m).toNat < slotCount m := by decide

/-- A re-masked selection id is below the slot count of a legal mode (42_joypad_mux.md rule R128). -/
theorem remask_lt : ∀ id m : BitVec 2, m ≠ 2#2 → (id &&& m).toNat < slotCount m := by decide

end Sys2Proof.Machine
end

