-- ==== Sys2Proof/Laws/PerInstr.lean ====
section
/-! SUPPORT. Facts about every operation as syntax, one lemma per constructor. The family `RowWord`: the word of an
operation has the format of the operation's opcode-table row, and its bits under the row's mask are the row's pattern
(30_encoding.md rule R66, rule R67, rule R75). -/

namespace Sys2Proof.Laws.RowWord

/-- The word of an operation lies in the operation's own row of the opcode table. -/
def Statement (i : Instr) : Prop := (rowOf i).matchesWord (encode i) = true

theorem pinPulse : Statement .pinPulse := by unfold Statement; decide
theorem pinZero : Statement .pinZero := by unfold Statement; decide
theorem pinOne : Statement .pinOne := by unfold Statement; decide
theorem pinIdle : Statement .pinIdle := by unfold Statement; decide
theorem rdLy : Statement .rdLy := by unfold Statement; decide
theorem rdStatus : Statement .rdStatus := by unfold Statement; decide
theorem rdCtrl : Statement .rdCtrl := by unfold Statement; decide
theorem rdPkt (idx : BitVec 4) : Statement (.rdPkt idx) := by
  unfold Statement; revert idx; decide
theorem rdVram : Statement .rdVram := by unfold Statement; decide
theorem rdOther (addr : BitVec 16) : Statement (.rdOther addr) := by
  simp [Statement, TableRow.matchesWord, rowOf, encode, OpWord.fmt]

/-- A mask that covers only the bits above `k` sees none of the `k` low bits. -/
theorem shifted_and_mask (hi lo k mask : Nat) (h : lo < 2 ^ k) :
    (hi * 2 ^ k + lo) &&& (mask * 2 ^ k) = (hi &&& mask) * 2 ^ k := by
  apply Nat.eq_of_testBit_eq
  intro j
  rw [Nat.mul_comm hi, Nat.mul_comm mask, Nat.mul_comm (hi &&& mask)]
  rw [Nat.testBit_and, Nat.testBit_two_pow_mul_add _ h, Nat.testBit_two_pow_mul, Nat.testBit_two_pow_mul]
  by_cases hj : j < k
  · simp [hj, Nat.not_le.mpr hj]
  · simp [hj, Nat.not_lt.mp hj, Nat.testBit_and]

/-- Concatenation of bits as arithmetic. -/
theorem append_arith (hi lo k : Nat) (h : lo < 2 ^ k) : hi <<< k ||| lo = hi * 2 ^ k + lo := by
  rw [Nat.shiftLeft_eq, Nat.mul_comm, ← Nat.two_pow_add_eq_or_of_lt h]

theorem wrCtrl (data : BitVec 8) : Statement (.wrCtrl data) := by
  have h := shifted_and_mask 0x6003 data.toNat 8 0xFFFF data.isLt
  have e : (0x6003#16 ++ data).toNat = 0x6003 * 2 ^ 8 + data.toNat := by
    rw [BitVec.toNat_append, append_arith _ _ _ data.isLt]; rfl
  simpa [Statement, TableRow.matchesWord, rowOf, encode, OpWord.fmt, OpWord.bits, e] using h

theorem wrJoy (slot : BitVec 2) (data : BitVec 8) : Statement (.wrJoy slot data) := by
  have hlt : slot.toNat * 2 ^ 8 + data.toNat < 2 ^ 10 := by
    have := slot.isLt; have := data.isLt; omega
  have h := shifted_and_mask 0x1801 (slot.toNat * 2 ^ 8 + data.toNat) 10 0x3FFF hlt
  have e₁ : (0x1801#14 ++ slot).toNat = 0x1801 * 2 ^ 2 + slot.toNat := by
    rw [BitVec.toNat_append, append_arith _ _ _ slot.isLt]; rfl
  have e : ((0x1801#14 ++ slot) ++ data).toNat = 0x1801 * 2 ^ 10 + (slot.toNat * 2 ^ 8 + data.toNat) := by
    rw [BitVec.toNat_append, append_arith _ _ _ data.isLt, e₁]; ring
  simpa [Statement, TableRow.matchesWord, rowOf, encode, OpWord.fmt, OpWord.bits, e] using h

theorem wrOther (addr : BitVec 16) (data : BitVec 8) : Statement (.wrOther addr data) := by
  simp [Statement, TableRow.matchesWord, rowOf, encode, OpWord.fmt]
theorem rowsel (row : BitVec 5) : Statement (.rowsel row) := by
  simp [Statement, TableRow.matchesWord, rowOf, encode, OpWord.fmt]
theorem reset : Statement .reset := by unfold Statement; decide
theorem power : Statement .power := by unfold Statement; decide
theorem joypoll : Statement .joypoll := by unfold Statement; decide
theorem run : Statement .run := by unfold Statement; decide

end Sys2Proof.Laws.RowWord
end

