-- ==== Sys2Proof/Tests/Slice0.lean ====
section
/-! SUPPORT. Tests and witnesses. Expected values come from the spec's encodings (30_encoding.md) and vectors
(95_test_vectors.md, named S<n>, V<n>); an example at the end of a rule is named by the rule. A `witness_<name>` shows
that the hypotheses of the obligation of that name can be met together. -/

namespace Sys2Proof.Tests

open Sys2Proof Sys2Proof.Machine

/-! ### Well-formedness -/

theorem test_wf_rdOther_refuses_registers :
    (Instr.rdOther 0x6000#16).wf = false ∧ (Instr.rdOther 0x6002#16).wf = false ∧
    (Instr.rdOther 0x6003#16).wf = false ∧ (Instr.rdOther 0x7000#16).wf = false ∧
    (Instr.rdOther 0x700F#16).wf = false ∧ (Instr.rdOther 0x7800#16).wf = false := by decide

theorem test_wf_rdOther_accepts_the_rest :
    (Instr.rdOther 0x6001#16).wf = true ∧ (Instr.rdOther 0x6004#16).wf = true ∧
    (Instr.rdOther 0x7010#16).wf = true ∧ (Instr.rdOther 0x7801#16).wf = true := by decide

theorem test_wf_wrOther_refuses_registers :
    (Instr.wrOther 0x6003#16 0x80#8).wf = false ∧ (Instr.wrOther 0x6004#16 0x00#8).wf = false ∧
    (Instr.wrOther 0x6007#16 0x00#8).wf = false := by decide

theorem test_wf_wrOther_accepts_the_rest :
    (Instr.wrOther 0x6002#16 0xFF#8).wf = true ∧ (Instr.wrOther 0x6008#16 0x01#8).wf = true ∧
    (Instr.wrOther 0x7800#16 0x55#8).wf = true := by decide

/-! ### Decoding: words written out from 30_encoding.md (rule R61, rule R66, rule R67, rule R70, rule R75) -/

theorem test_decode_pin :
    decode (.pin 0b00#2) = .pinPulse ∧ decode (.pin 0b10#2) = .pinZero ∧
    decode (.pin 0b01#2) = .pinOne ∧ decode (.pin 0b11#2) = .pinIdle := by decide

theorem test_decode_rd :
    decode (.rd 0b0110000000000000#16) = .rdLy ∧
    decode (.rd 0b0110000000000010#16) = .rdStatus ∧
    decode (.rd 0b0110000000000011#16) = .rdCtrl ∧
    decode (.rd 0b0111000000000101#16) = .rdPkt 5#4 ∧
    decode (.rd 0b0111100000000000#16) = .rdVram ∧
    decode (.rd 0b0111000000010000#16) = .rdOther 0x7010#16 := by decide

theorem test_decode_wr :
    decode (.wr 0b011000000000001110110000#24) = .wrCtrl 0xB0#8 ∧
    decode (.wr 0b011000000000011011111011#24) = .wrJoy 2#2 0xFB#8 ∧
    decode (.wr 0b011000000000100000000001#24) = .wrOther 0x6008#16 0x01#8 := by decide

theorem test_decode_row_ctl_core :
    decode (.row 0b00101#5) = .rowsel 5#5 ∧
    decode (.ctl 0b0#1) = .reset ∧ decode (.ctl 0b1#1) = .power ∧
    decode (.core 0b0#1) = .joypoll ∧ decode (.core 0b1#1) = .run := by decide

theorem test_decode_rejects_by_name :
    decodeBits .pin 4 = .error (.strayBits .pin) ∧ decodeBits .row 32 = .error (.strayBits .row) ∧
    decodeBits .rd 0x10000 = .error (.strayBits .rd) ∧ decodeBits .core 2 = .error (.strayBits .core) := by
  refine ⟨?_, ?_, ?_, ?_⟩ <;> rfl

theorem test_decodeTableWord :
    decodeTableWord 8 2 = some .pinZero ∧ decodeTableWord 8 5 = some (.rowsel 5#5) ∧
    decodeTableWord 16 0x7001 = some (.rdPkt 1#4) ∧ decodeTableWord 24 0x600380 = some (.wrCtrl 0x80#8) ∧
    decodeTableWord 8 0x20 = none ∧ decodeTableWord 32 0 = none := by decide

/-! ### Helpers: a decoder state on top of the reset state, and one field of the state after one operation -/

/-- The decoder state `(pulse_lock, strobe_lock, packet_lock, bit_offset, byte_offset, byte_acc)` of the vectors. -/
structure Decoder where
  pulseLock : Bool
  strobeLock : Bool
  packetLock : Bool
  bitOffset : Fin 8
  byteOffset : Fin 16
  byteAcc : Byte
  deriving DecidableEq, Repr

/-- The reset state with another decoder state. -/
def withDecoder (pl sl kl : Bool) (bit : Fin 8) (byte : Fin 16) (acc : Byte) : State :=
  { State.reset with
    pulseLock := pl, strobeLock := sl, packetLock := kl, bitOffset := bit, byteOffset := byte, byteAcc := acc }

/-- The decoder state of a state. -/
def decoderOf (s : State) : Decoder :=
  ⟨s.pulseLock, s.strobeLock, s.packetLock, s.bitOffset, s.byteOffset, s.byteAcc⟩

/-- `f` of the state after one operation, `none` where it has no next state. -/
def after {α : Type} (i : Instr) (s : State) (f : State → α) : Option α :=
  match exec i s with
  | .next t => some (f t)
  | .fault _ => none
  | .refused _ => none

/-- A packet whose bytes are `b, b+1, …`. -/
def packetFrom (b : Nat) : Packet := Vector.ofFn fun k : Fin 16 => BitVec.ofNat 8 (b + k.val)

/-- A header with `hdr[k] = k`. -/
def countingHeader : Header := Vector.ofFn fun k : Fin 84 => BitVec.ofNat 8 k.val

/-! ### The pins -/

/-- V14. -/
theorem test_pinPulse_in_mid_byte :
    after .pinPulse (withDecoder false true false 5 9 0x15#8) decoderOf
      = some ⟨false, true, false, 0, 0, 0x15#8⟩ := by decide

/-- V13. -/
theorem test_pinPulse_discards_assembled_packet :
    after .pinPulse { withDecoder false false true 0 0 0x1F#8 with queue := [packetFrom 7] }
      (fun t => (decoderOf t, t.queue.length)) = some (⟨false, true, false, 0, 0, 0x1F#8⟩, 1) := by decide

/-- V12: `strobe_lock` beats `packet_lock`. -/
theorem test_pinZero_badly_framed_commit :
    after .pinZero (withDecoder false true true 0 0 0x1F#8) (fun t => (decoderOf t, t.queue))
      = some (⟨true, true, false, 0, 0, 0x1F#8⟩, []) := by decide

/-- V10. -/
theorem test_pinZero_commit :
    after .pinZero { withDecoder false false true 0 0 0x1F#8 with pktAcc := packetFrom 0x10 }
      (fun t => (decoderOf t, t.queue)) = some (⟨true, false, false, 0, 0, 0x1F#8⟩, [packetFrom 0x10]) := by decide

/-- R96, example: the eighth bit of 0xA5. -/
theorem test_pinOne_commits_byte :
    after .pinOne (withDecoder false false false 7 0 0x52#8) (fun t => (decoderOf t, t.pktAcc[0]))
      = some (⟨false, true, false, 0, 1, 0xA5#8⟩, 0xA5#8) := by decide

/-- V11. -/
theorem test_pinOne_ignored_with_packet :
    after .pinOne (withDecoder false false true 0 0 0x1F#8) (fun t => (decoderOf t, t.queue))
      = some (⟨false, false, true, 0, 0, 0x1F#8⟩, []) := by decide

/-- V3, step 4. -/
theorem test_pinIdle_arms :
    after .pinIdle (withDecoder false true false 1 0 0x00#8) decoderOf
      = some ⟨false, false, false, 1, 0, 0x00#8⟩ := by decide

/-- R126, example: slot 3 of four advances to slot 0; and R92: Idle-locked keeps `strobe_lock`. -/
theorem test_pinIdle_advances :
    after .pinIdle { withDecoder true true false 0 0 0x00#8 with mltMode := 3#2, joyId := 3#2 }
      (fun t => (t.joyId, t.strobeLock)) = some (0#2, true) := by decide

/-! ### Bus reads -/

/-- V50. -/
theorem test_rdLy :
    after .rdLy { State.reset with inputs := { Inputs.zero with ly := 0x5A#8 } } (·.out.data)
      = some (some 0x5A#8) := by decide

/-- V21: the front packet is latched, the next one is now in front. -/
theorem test_rdStatus_pops :
    after .rdStatus { State.reset with queue := [packetFrom 1, packetFrom 2] }
      (fun t => (t.out.data, t.pktWindow, t.queue))
      = some (some 0x01#8, packetFrom 1, [packetFrom 2]) := by decide

/-- R157, example: the window persists after the empty status read. -/
theorem test_rdStatus_empty :
    after .rdStatus { State.reset with pktWindow := packetFrom 0x89 } (fun t => (t.out.data, t.pktWindow))
      = some (some 0x00#8, packetFrom 0x89) := by decide

/-- V57. -/
theorem test_rdCtrl_after_reset : after .rdCtrl State.reset (·.out.data) = some (some 0x00#8) := by
  simp only [after, exec, execRdCtrl, ctrlReadValue]
  cases Config.ctrlReadback <;> rfl

/-- V23: the last byte of the window. -/
theorem test_rdPkt :
    after (.rdPkt 0xF#4) { State.reset with pktWindow := packetFrom 0x69 } (·.out.data)
      = some (some 0x78#8) := by decide

/-- R160: at 319 the read returns the last byte and the cursor wraps. -/
theorem test_rdVram_wraps :
    after .rdVram { State.reset with vramCursor := 319, vram := (Vector.replicate 320 0x00#8).set 319 0x3C#8 }
      (fun t => (t.out.data, t.vramCursor)) = some (some 0x3C#8, 0) := by decide

/-- V51: a read of 0x7801 returns 0x00 and does not move the cursor. -/
theorem test_rdOther :
    after (readOp 0x7801#16) State.reset (fun t => (t.out.data, t.vramCursor)) = some (some 0x00#8, 0) := by decide

/-! ### Bus writes -/

/-- V54, third row: the reserved mode 2 with the enable transition. -/
theorem test_wrCtrl_enable_transition :
    after (.wrCtrl 0xA5#8) { State.reset with queue := [packetFrom 1, packetFrom 2], joy := State.reset.joy.set 0 0x12#8 }
      (fun t => (t.ctrl, t.mltMode, t.queue.length, t.joy[0], t.out.coreReset))
      = some (0xA5#8, 3#2, 6, 0xFF#8, true) := by decide

/-- V33: the selection is re-masked by the new mode. -/
theorem test_wrCtrl_remasks :
    after (.wrCtrl 0x10#8) { State.reset with ctrl := 0x30#8, mltMode := 3#2, joyId := 3#2 }
      (fun t => (t.ctrl, t.mltMode, t.joyId)) = some (0x10#8, 1#2, 1#2) := by decide

/-- S6: the fourth boot packet of a header with `hdr[k] = k`. -/
theorem test_bootPacket :
    bootPacket countingHeader 3 = #v[0xF7#8, 0xA7#8, 0x2A#8, 0x2B#8, 0x2C#8, 0x2D#8, 0x2E#8, 0x2F#8,
      0x30#8, 0x31#8, 0x32#8, 0x33#8, 0x34#8, 0x35#8, 0x36#8, 0x37#8] := by decide +kernel

/-- V53: slot 3 is writable with one slot active. -/
theorem test_wrJoy :
    after (.wrJoy 3#2 0xA5#8) State.reset (fun t => (t.joy[3], t.joy[0])) = some (0xA5#8, 0xFF#8) := by decide

/-- V52: no pop, no enable. -/
theorem test_wrOther :
    after (writeOp 0x6002#16 0xFF#8) { State.reset with queue := [packetFrom 1] }
      (fun t => (t.queue.length, t.ctrl)) = some (1, 0x00#8) := by decide

/-! ### The renderer -/

/-- V48: row 19 is accepted, row 20 refused. -/
theorem test_rowsel_accepts_19 :
    after (.rowsel 19#5) { State.reset with vramCursor := 5 } (fun t => (t.vramRow, t.vramCursor))
      = some (19#5, 0) := by decide

theorem test_rowsel_refuses_20 :
    exec (.rowsel 20#5) State.reset = .refused (.rowOutOfRange 20#5) := by rfl

/-- V42: in row 5 the black pixel at (9, 42) sets bit 6 of bytes 20 and 21, and byte 22 stays 0x00. -/
theorem test_render_one_black_pixel :
    let s : State := { State.reset with inputs := { Inputs.zero with fb := { background := 0xFFFFFF#24, cells := [(160 * 42 + 9, 0x000000#24)] } } }
    let strip := fun x y => colourIndex (s.stripPixel 5#5 x y)
    planeByte strip 20 = 0x40#8 ∧ planeByte strip 21 = 0x40#8 ∧ planeByte strip 22 = 0x00#8 := by decide +kernel

/-- V45: plane 0 of the indices 1,1,1,1,2,2,2,2 is 0xF0, plane 1 is 0x0F; so for the loop's OR of one pixel. -/
theorem test_planes :
    planeByte (fun x _ => if x.val % 8 < 4 then 1#2 else 2#2) 0 = 0xF0#8 ∧
    planeByte (fun x _ => if x.val % 8 < 4 then 1#2 else 2#2) 1 = 0x0F#8 ∧
    (orPixel 1#2 (Vector.replicate 320 0x00#8) 0 0)[0] = 0x80#8 ∧
    (orPixel 2#2 (Vector.replicate 320 0x00#8) 159 7)[319] = 0x01#8 := by decide +kernel

/-! ### Reset, power, poll, run -/

/-- V56. -/
theorem test_reset_in_mid_packet :
    after .reset { withDecoder false false false 3 7 0x05#8 with
        queue := [packetFrom 1], ctrl := 0xB0#8, mltMode := 3#2, joyId := 2#2, vramCursor := 100 }
      (fun t => (decoderOf t, t.queue, (t.ctrl, t.joyId), (t.vramCursor, t.out.coreLoad)))
      = some (⟨true, false, false, 0, 0, 0x00#8⟩, [], (0x00#8, 0#2), (0, false)) := by decide

theorem test_power :
    after .power { State.reset with ctrl := 0xB0#8 } (fun t => (t.ctrl, t.out.coreReset, t.out.coreLoad))
      = some (0x00#8, true, true) := by decide

/-- R130, example. -/
theorem test_joypoll :
    after .joypoll { State.reset with joy := #v[0xFE#8, 0xFD#8, 0xFB#8, 0xF7#8], joyId := 2#2 } (·.out.poll)
      = some (some (2#2, 0xFB#8)) := by decide

/-- V59. -/
theorem test_run :
    after .run { State.reset with ctrl := 0x80#8 } (fun t => (t.ctrl, decoderOf t))
      = some (0x80#8, ⟨true, false, false, 0, 0, 0x00#8⟩) := by decide

/-! ### The step -/

theorem test_step_runs_fetched_word :
    (match step (State.reset.withFetchWord 24 0x6006FB) with
      | .next t => some (t.joy[2], t.pending)
      | .fault _ => none
      | .refused _ => none) = some (0xFB#8, []) := by decide

theorem test_step_refuses_row_20 :
    step (State.reset.withFetchWord 8 20) = .refused (.rowOutOfRange 20#5) := by rfl

/-! ### Witnesses

Operations at inputs that no operation here reads. -/

/-- Operations as the vectors list them, each at the reset state's inputs. -/
def timed (l : List Instr) : List Timed := l.map fun i => (i, Inputs.zero)

theorem timed_fst (l : List Instr) : (timed l).map Prod.fst = l := by
  unfold timed; rw [List.map_map]; exact List.map_id l

/-- Both-high is not the release pattern. -/
theorem pinIdle_ne_releaseOp : Instr.pinIdle ≠ releaseOp := by
  unfold releaseOp releasePattern
  cases Config.joyRelease <;> decide

theorem witness_DecodeOfEncode :
    (Instr.rdPkt 0xF#4).wf = true ∧ (Instr.rdOther 0x7010#16).wf = true ∧ (Instr.wrJoy 3#2 0xFF#8).wf = true ∧
    (Instr.wrOther 0x7800#16 0x55#8).wf = true ∧ (Instr.rowsel 31#5).wf = true ∧ Instr.pinZero.wf = true := by decide

theorem witness_DecodeFollowsOpcodeTable :
    rowOf (.rdOther 0#16) ∈ opcodeTable ∧ (rowOf (.rdOther 0#16)).matchesWord (.rd 0x6002#16) = true ∧
    rowOf (.rdOther 0#16) ≠ rowOf (decode (.rd 0x6002#16)) := by decide

theorem witness_StrayBitsRejected :
    2 ^ Format.pin.width ≤ 4 ∧ 3 < 2 ^ Format.pin.width ∧ 2 ^ Format.wr.width ≤ 0x1000000 ∧
    0xFFFFFF < 2 ^ Format.wr.width := by decide

theorem witness_StepRunsPresentedOperation :
    (State.reset.withFetchWord 8 3).pending = { op := .pin 3#2, inputs := Inputs.zero } :: [] := by rfl

theorem witness_StepRunsEncodedOperation : (Instr.wrCtrl 0x80#8).wf = true := by decide

theorem witness_NothingPresentedNothingMoves : State.reset.pending = [] := by rfl

theorem witness_RunExecutesInPresentedOrder :
    ((State.reset.withFetchWord 8 1).withFetchWord 8 3).pending =
      [{ op := .pin 3#2, inputs := Inputs.zero }] ++ [{ op := .pin 1#2, inputs := Inputs.zero }] := by rfl

theorem witness_OperationsInRangeComplete :
    (∀ row : BitVec 5, Instr.rowsel 19#5 = .rowsel row → row.toNat < 20) ∧
    (∀ row : BitVec 5, Instr.power = .rowsel row → row.toNat < 20) := by decide

theorem witness_RowTwentyAndAboveRefused : 20 ≤ (20#5).toNat ∧ 20 ≤ (31#5).toNat := by decide

theorem witness_IdleLockedIgnoresDataEdges : State.reset.pulseLock = true := by rfl

theorem witness_UnframedEdgeIsViolation :
    (withDecoder false true false 4 2 0x0A#8).pulseLock = false ∧
    (withDecoder false true false 4 2 0x0A#8).strobeLock = true := by decide

theorem witness_BitConsumedWithinByte :
    let s := withDecoder false false false 6 0 0x29#8
    s.pulseLock = false ∧ s.strobeLock = false ∧ s.packetLock = false ∧ s.bitOffset.val < 7 := by decide

theorem witness_EighthBitCommitsByte :
    let s := withDecoder false false false 7 14 0x52#8
    s.pulseLock = false ∧ s.strobeLock = false ∧ s.packetLock = false ∧ s.bitOffset = 7 ∧ s.byteOffset.val < 15 := by
  decide

theorem witness_LastBitCompletesPacket :
    let s := withDecoder false false false 7 15 0x0F#8
    s.pulseLock = false ∧ s.strobeLock = false ∧ s.packetLock = false ∧ s.bitOffset = 7 ∧ s.byteOffset = 15 := by
  decide

theorem witness_FramedZeroCommitsFramedOneIsIgnored :
    let s := withDecoder false false true 0 0 0x1F#8
    s.pulseLock = false ∧ s.strobeLock = false ∧ s.packetLock = true := by decide

theorem witness_TransitionTable :
    (withDecoder true false false 0 0 0x00#8).phase = some .locked ∧
    (withDecoder false true false 0 0 0x00#8).phase = some .armed ∧
    (withDecoder false false false 7 15 0x00#8).phase = some .ready ∧
    (withDecoder false true true 0 0 0x00#8).phase = some .fullArmed ∧
    (withDecoder false false true 0 0 0x00#8).phase = some .fullReady := by decide

theorem witness_PinFrame :
    isPin .pinZero = true ∧ isPin .rdStatus = false ∧ isReset .rdStatus State.reset = false ∧
    ∃ t, exec .rdStatus State.reset = .next t := ⟨rfl, rfl, rfl, _, rfl⟩

theorem witness_OnlyPulseLeavesIdleLock :
    State.reset.pulseLock = true ∧
    ∀ o ∈ timed [.pinIdle, .pinZero, .pinOne], isPin o.1 = true ∧ o.1 ≠ .pinPulse := by
  refine ⟨rfl, ?_⟩
  simp [timed, isPin]

theorem witness_SentPacketIsEnqueued :
    (timed (sendPacket (packetFrom 0x10))).map Prod.fst = sendPacket (packetFrom 0x10) := timed_fst _

/-- A packet body between a status read and a poll. -/
def interleaved : List Timed := timed (.rdStatus :: packetBody (packetFrom 0x10) ++ [.joypoll])

theorem witness_InterleavedPacketIsEnqueued :
    (interleaved.map Prod.fst).filter isPin = packetBody (packetFrom 0x10) ∧
    resetFree interleaved State.reset = true ∧
    (match runOps interleaved State.reset with
      | .next m => decide (m.queue.length < 64)
      | .fault _ => false
      | .refused _ => false) = true := by
  refine ⟨?_, by decide +kernel, by decide +kernel⟩
  rw [interleaved, timed_fst]; decide +kernel

theorem witness_JitterDoesNotDisturbPacket :
    dropJitter ((timed (.pinPulse :: .pinIdle :: (sendPacket (packetFrom 0x10)).tail)).map Prod.fst) =
      sendPacket (packetFrom 0x10) := by
  rw [timed_fst]; decide +kernel

theorem witness_RecoveryAfterViolation :
    let s := withDecoder false true false 2 1 0xFF#8
    s.pulseLock = false ∧ s.strobeLock = true ∧ s.queue.length < 64 ∧
    (∀ o ∈ timed [.pinIdle, .pinZero], isPin o.1 = true ∧ o.1 ≠ .pinPulse) ∧
    (timed (sendPacket (packetFrom 0x12))).map Prod.fst = sendPacket (packetFrom 0x12) := by
  refine ⟨rfl, rfl, by decide, ?_, timed_fst _⟩
  simp [timed, isPin]

theorem witness_StatusReadPopsAndLatches :
    ({ State.reset with queue := [packetFrom 1, packetFrom 2] } : State).queue = packetFrom 1 :: [packetFrom 2] ∧
    State.reset.queue = [] := ⟨rfl, rfl⟩

theorem witness_WindowPersists :
    (∃ t, exec .pinZero { withDecoder false false true 0 0 0x1F#8 with queue := [packetFrom 1] } = .next t) ∧
    isReset .pinZero State.reset = false ∧
    (∃ t, exec .rdStatus State.reset = .next t) ∧ isReset .rdStatus State.reset = false ∧
    (Instr.rdStatus = .rdStatus → State.reset.queue = []) := ⟨⟨_, rfl⟩, rfl, ⟨_, rfl⟩, rfl, fun _ => rfl⟩

theorem witness_StatusReadsEmptyQueueInOrder :
    [packetFrom 1, packetFrom 2][1]? = some (packetFrom 2) ∧
    (timed (List.replicate 2 .rdStatus)).map Prod.fst = List.replicate (1 + 1) .rdStatus :=
  ⟨rfl, timed_fst _⟩

theorem witness_OverflowDropsTheNewest :
    (List.replicate 64 (packetFrom 1)).length ≤ 64 ∧ [packetFrom 2] ≠ [] ∧
    (timed ([packetFrom 2].flatMap sendPacket)).map Prod.fst = [packetFrom 2].flatMap sendPacket :=
  ⟨by simp, by simp, timed_fst _⟩

theorem witness_SentPacketIsReadBack :
    State.reset.queue = [] ∧
    (timed (sendPacket (packetFrom 1) ++ [.rdStatus, .rdPkt 0xF#4])).map Prod.fst =
      sendPacket (packetFrom 1) ++ [.rdStatus, .rdPkt 0xF#4] := ⟨rfl, timed_fst _⟩

theorem witness_QueueGrowsByCommitAndBootOnly :
    (∃ t, exec .pinZero (withDecoder false false true 0 0 0x1F#8) = .next t ∧
      (withDecoder false false true 0 0 0x1F#8).queue.length < t.queue.length) ∧
    (∃ t, exec (.wrCtrl 0x80#8) State.reset = .next t ∧ State.reset.queue.length < t.queue.length) ∧
    State.reset.queue.length ≤ 64 :=
  ⟨⟨_, rfl, by decide⟩, ⟨_, rfl, by decide⟩, by decide⟩

theorem witness_OneAdvancePerRelease :
    (∀ o ∈ timed [.pinIdle, .pinIdle], isPin o.1 = true ∧ o.1 ≠ releaseOp) ∧
    State.reset.joyLock = false ∧ Instr.pinIdle ∈ (timed [.pinIdle, .pinIdle]).map Prod.fst := by
  refine ⟨?_, rfl, by decide⟩
  simp [timed, isPin, pinIdle_ne_releaseOp]

theorem witness_RoundRobinPolling :
    ({ State.reset with mltMode := 3#2, joyId := 3#2 } : State).SelectionInRange ∧
    (timed (List.replicate 5 [releaseOp, .pinIdle]).flatten).map Prod.fst =
      (List.replicate 5 [releaseOp, .pinIdle]).flatten := ⟨by decide, timed_fst _⟩

theorem witness_ReadFrame :
    isRead .rdStatus = true ∧ isRead .rdVram = true ∧ Instr.rdVram ≠ .rdStatus ∧ Instr.rdStatus ≠ .rdVram ∧
    State.reset.queue = [] ∧ (∃ t, exec .rdStatus State.reset = .next t) ∧
    ∃ t, exec .rdVram State.reset = .next t := ⟨rfl, rfl, by decide, by decide, rfl, ⟨_, rfl⟩, _, rfl⟩

theorem witness_WriteFrame :
    isWrite (.wrJoy 3#2 0xA5#8) = true ∧ isReset (.wrJoy 3#2 0xA5#8) State.reset = false ∧
    (∃ t, exec (.wrJoy 3#2 0xA5#8) State.reset = .next t) ∧
    (∀ data, Instr.wrJoy 3#2 0xA5#8 ≠ .wrCtrl data) ∧
    (∀ (slot : BitVec 2) (data : Byte), Instr.wrJoy 3#2 0xA5#8 = .wrJoy slot data → (0 : Nat) ≠ slot.toNat) ∧
    isWrite (.wrCtrl 0x30#8) = true ∧ isReset (.wrCtrl 0x30#8) State.reset = false ∧
    ∃ t, exec (.wrCtrl 0x30#8) State.reset = .next t := by
  refine ⟨rfl, rfl, ⟨_, rfl⟩, by simp, ?_, rfl, by decide, _, rfl⟩
  intro slot data h
  cases h
  decide

theorem witness_ControlWriteWithoutTransition :
    ((0x00#8).getLsbD 7 = true ∨ (0x7F#8).getLsbD 7 = false) ∧
    ((0x80#8).getLsbD 7 = true ∨ (0xFF#8).getLsbD 7 = false) := by decide

theorem witness_EnableTransition : State.reset.ctrl.getLsbD 7 = false ∧ (0x80#8).getLsbD 7 = true := by decide

theorem witness_BusBytesOutsideFootprintUnchanged :
    (∃ t, exec .rdStatus { State.reset with queue := [packetFrom 1] } = .next t) ∧
    isReset .rdStatus State.reset = false ∧ busFootprint .rdStatus 0x7010#16 = false ∧
    busFootprint .rdStatus 0x700F#16 = true ∧ busFootprint (.wrJoy 0#2 0#8) 0x6004#16 = false := by
  refine ⟨⟨_, rfl⟩, rfl, ?_, ?_, rfl⟩ <;> decide

theorem witness_EnableGatesNothing :
    Instr.pinZero ≠ .rdCtrl ∧ (∀ data, Instr.pinZero ≠ .wrCtrl data) ∧ Instr.pinZero ≠ .reset ∧
    Instr.pinZero ≠ .power ∧ ∃ t, exec .pinZero State.reset = .next t :=
  ⟨by decide, by simp, by decide, by decide, _, rfl⟩

theorem witness_ViewAfterReset :
    (Instr.power = .reset ∨ Instr.power = .power) ∧ (0x6001#16 : Addr) ≠ 0x6000#16 := by decide

theorem witness_RowSelectResult : (0#5).toNat < 20 ∧ (19#5).toNat < 20 := by decide

theorem witness_RowBufferClosedForm : (17#5).toNat < 20 ∧ (19#5).toNat < 20 := by decide

theorem witness_StripPixelSource : (17#5).toNat < 18 ∧ 18 ≤ (18#5).toNat := by decide

/-- The reset state before a frame of one colour. -/
def beforeFrame (p : Pixel) : State :=
  { State.reset with inputs := { Inputs.zero with fb := { background := p, cells := [] } } }

/-- Every row of the frame samples that colour everywhere. -/
theorem beforeFrame_stripPixel (p : Pixel) (row : BitVec 5) (hr : row.toNat < 18) (x : Fin 160) (y : Fin 8) :
    (beforeFrame p).stripPixel row x y = p := by
  have h : firstLine row + y.val < frameHeight := by
    show 8 * row.toNat + y.val < 144; omega
  rw [State.stripPixel, if_pos h]
  rfl

theorem witness_WhiteAndBlackRows :
    (17#5).toNat < 20 ∧
    (∀ (x : Fin 160) (y : Fin 8), (beforeFrame 0xFFFFFF#24).stripPixel 17#5 x y = 0xFFFFFF#24) ∧
    ∀ (x : Fin 160) (y : Fin 8), (beforeFrame 0x000000#24).stripPixel 17#5 x y = 0x000000#24 :=
  ⟨by decide, beforeFrame_stripPixel _ _ (by decide), beforeFrame_stripPixel _ _ (by decide)⟩

theorem witness_RenderHasNoHistory :
    (17#5).toNat < 20 ∧ (0#5).toNat < 20 ∧
    (∀ (x : Fin 160) (y : Fin 8), (beforeFrame 0x123456#24).stripPixel 17#5 x y =
      ({ beforeFrame 0x123456#24 with vramCursor := 7, ctrl := 0x80#8 } : State).stripPixel 0#5 x y) ∧
    resetFree (timed [.rdVram, .run]) State.reset = true ∧
    (∀ o ∈ timed [.rdVram, .run], ∀ row, o.1 ≠ .rowsel row) ∧
    ∃ t, runOps (timed [.rdVram, .run]) State.reset = .next t :=
  ⟨by decide, by decide, fun x y =>
    (beforeFrame_stripPixel _ 17#5 (by decide) x y).trans (beforeFrame_stripPixel _ 0#5 (by decide) x y).symm,
    rfl, by simp [timed], _, rfl⟩

theorem witness_ReadOutWraps :
    (19#5).toNat < 20 ∧ (∀ o ∈ timed [.rdVram, .joypoll, .rdVram], ∀ r, o.1 ≠ .rowsel r) ∧
    ∃ u, exec (.rowsel 19#5) State.reset = .next u ∧
      resetFree (timed [.rdVram, .joypoll, .rdVram]) u = true :=
  ⟨by decide, by simp [timed], _, rfl, rfl⟩

theorem witness_RowBufferFrame :
    (∃ t, exec (.rowsel 19#5) State.reset = .next t) ∧
    (∃ t, exec .rdVram State.reset = .next t) ∧ isReset .rdVram State.reset = false ∧
    (∀ row, Instr.rdVram ≠ .rowsel row) ∧ (∀ row, Instr.pinIdle ≠ .rowsel row) ∧ Instr.pinIdle ≠ .rdVram :=
  ⟨⟨_, rfl⟩, ⟨_, rfl⟩, rfl, by simp, by simp, by decide⟩

theorem witness_StepKeepsInvariant :
    (State.reset.withFetchWord 24 0x6003B0).Inv ∧
    ∃ t, step (State.reset.withFetchWord 24 0x6003B0) = .next t ∧ t.queue.length = 6 :=
  ⟨by decide, _, rfl, by decide⟩

end Sys2Proof.Tests
end

section
/-! Proofs of the family `40_serial_decoder.md`: the frame of the pins and of the decoder (rule R107). -/

namespace Sys2Proof.Machine

/-! ### A presentation as its two levels -/

/-- The four `PIN` rows of the opcode table, by their levels (30_encoding.md rule R62). -/
theorem isPin_iff {i : Instr} : isPin i = true ↔ ∃ p15 p14, i = pinOp p15 p14 := by
  constructor
  · intro h
    cases i with
    | pinPulse => exact ⟨false, false, by decide⟩
    | pinZero => exact ⟨true, false, by decide⟩
    | pinOne => exact ⟨false, true, by decide⟩
    | pinIdle => exact ⟨true, true, by decide⟩
    | _ => simp [isPin] at h
  · rintro ⟨p15, p14, rfl⟩
    revert p15 p14
    decide

@[simp] theorem exec_pinOp (p15 p14 : Bool) (s : State) :
    exec (pinOp p15 p14) s = .next (s.presentPins p15 p14) := by
  cases p15 <;> cases p14 <;> rfl

@[simp] theorem pinOp_commitEdge : pinOp true false = .pinZero := by decide

/-! ### What a presentation can do outside the decoder -/

theorem State.presentPins_sameRegisterBank (p15 p14 : Bool) (s : State) :
    s.SameRegisterBank (s.presentPins p15 p14) := by
  simp [State.SameRegisterBank]

theorem State.enqueue_queue_cases (p : Packet) (s : State) :
    (s.enqueue p).queue = s.queue ∨ (s.enqueue p).queue = s.queue ++ [p] := by
  rw [State.enqueue_queue]
  split
  · exact .inr rfl
  · exact .inl rfl

/-- A presentation that changes the queue is a commit edge with a framed packet, and appends that packet (rule R98). -/
theorem State.presentPins_queue_cases (p15 p14 : Bool) (s : State) :
    (s.presentPins p15 p14).queue = s.queue ∨
      pinOp p15 p14 = .pinZero ∧ s.pulseLock = false ∧ s.strobeLock = false ∧ s.packetLock = true ∧
        (s.presentPins p15 p14).queue = s.queue ++ [s.pktAcc] := by
  rw [State.presentPins_queue]
  split
  next commits =>
    obtain ⟨rfl, rfl, hpulse, hstrobe, hpacket⟩ := commits
    exact (s.enqueue_queue_cases s.pktAcc).imp_right fun happended =>
      ⟨pinOp_commitEdge, hpulse, hstrobe, hpacket, happended⟩
  next => exact .inl rfl

/-! ### What leaves the decoder alone -/

theorem State.SameDecoder.refl (s : State) : s.SameDecoder s := ⟨rfl, rfl, rfl, rfl, rfl, rfl, rfl⟩

theorem State.SameDecoder.emit {s t : State} (h : s.SameDecoder t) (o : Output) : s.SameDecoder (t.emit o) := h

theorem State.popAndLatch_sameDecoder (s : State) : s.SameDecoder s.popAndLatch.2 := by
  cases hq : s.queue with
  | nil => rw [State.popAndLatch_empty s hq]; exact State.SameDecoder.refl s
  | cons p rest => rw [State.popAndLatch_front s hq]; exact State.SameDecoder.refl s

/-- A control write without the enable transition: the mode update and the store of the byte (rule R163). -/
theorem execWrCtrl_of_not_enableRises {data : Byte} {s : State} (h : enableRises s.ctrl data = false) :
    execWrCtrl data s =
      .next { (s.emit Output.silent).setMode (normMode (ctrlMode data)) with ctrl := data } := by
  simp [execWrCtrl, h]

/-- An operation other than a presentation or a reset keeps the decoder (rule R107). -/
theorem exec_keeps_decoder {i : Instr} {s t : State} (hpin : isPin i = false) (hreset : isReset i s = false)
    (h : exec i s = .next t) : s.SameDecoder t := by
  cases i with
  | pinPulse | pinZero | pinOne | pinIdle => simp [isPin] at hpin
  | reset | power => simp [isReset] at hreset
  | rdLy | rdCtrl | rdPkt | rdOther | wrOther | joypoll | run =>
    cases h
    exact (State.SameDecoder.refl s).emit _
  | rdVram | wrJoy =>
    cases h
    exact State.SameDecoder.refl s
  | rdStatus =>
    cases h
    exact s.popAndLatch_sameDecoder.emit _
  | wrCtrl data =>
    cases (execWrCtrl_of_not_enableRises hreset).symm.trans h
    exact State.SameDecoder.refl s
  | rowsel row =>
    simp only [exec, execRowsel] at h
    split at h
    next => cases h
    next =>
      cases h
      exact State.SameDecoder.refl s

/-- Settles O21: a presentation by its two levels, every other operation by `exec_keeps_decoder`. -/
theorem pinFrame : Obligations.PinFrame := by
  unfold Obligations.PinFrame
  refine ⟨fun i s hpin => ?_, fun _ _ _ => exec_keeps_decoder⟩
  obtain ⟨p15, p14, rfl⟩ := isPin_iff.mp hpin
  exact ⟨s.presentPins p15 p14, exec_pinOp p15 p14 s, s.presentPins_sameRegisterBank p15 p14,
    s.presentPins_queue_cases p15 p14⟩

end Sys2Proof.Machine
end

section
/-! Proofs of the family `41_packet_fifo.md`: the window (rule R113) and the overflow of the queue (rule R114). -/

namespace Sys2Proof.Machine

/-! ### What leaves the window alone -/

/-- A row select that answers a state answers that of the rendered strip (43_renderer.md rule R141). -/
theorem eq_of_execRowsel_next {row : BitVec 5} {s t : State} (h : execRowsel row s = .next t) :
    t = (s.selectRow row).emit Output.silent := by
  unfold execRowsel at h
  split at h
  next => cases h
  next =>
    cases h
    rfl

/-- An operation other than a presentation, a status read that finds a packet, or a reset keeps the window. -/
theorem exec_keeps_window {i : Instr} {s t : State} (hpin : isPin i = false) (hreset : isReset i s = false)
    (hempty : i = .rdStatus → s.queue = []) (h : exec i s = .next t) : t.pktWindow = s.pktWindow := by
  cases i with
  | pinPulse | pinZero | pinOne | pinIdle => simp [isPin] at hpin
  | reset | power => simp [isReset] at hreset
  | rdLy | rdCtrl | rdPkt | rdVram | rdOther | wrJoy | wrOther | joypoll | run =>
    cases h
    rfl
  | rdStatus =>
    cases h
    rw [State.emit_pktWindow, State.popAndLatch_empty s (hempty rfl)]
  | wrCtrl data =>
    cases (execWrCtrl_of_not_enableRises hreset).symm.trans h
    rfl
  | rowsel row =>
    rw [eq_of_execRowsel_next h, State.emit_pktWindow, State.selectRow_pktWindow]

/-- Settles O28: a presentation by its two levels, every other operation by `exec_keeps_window`. -/
theorem windowPersists : Obligations.WindowPersists := by
  unfold Obligations.WindowPersists
  intro i s t h hreset hempty
  cases hpin : isPin i with
  | false => exact exec_keeps_window hpin hreset hempty h
  | true =>
    obtain ⟨p15, p14, rfl⟩ := isPin_iff.mp hpin
    cases (exec_pinOp p15 p14 s).symm.trans h
    exact s.presentPins_pktWindow p15 p14

/-! ### Sequences of operations, whatever the inputs they come with -/

/-- Executing these operations from `s`, each at any inputs, ends in a state with `P`. -/
def RunsTo (is : List Instr) (s : State) (P : State → Prop) : Prop :=
  ∀ ops : List Timed, ops.map Prod.fst = is → ∃ t, runOps ops s = .next t ∧ P t

theorem runOps_append {ops ops' : List Timed} {s t : State} (h : runOps ops s = .next t) :
    runOps (ops ++ ops') s = runOps ops' t := by
  induction ops generalizing s with
  | nil =>
    cases h
    rfl
  | cons o rest ih =>
    simp only [runOps, List.cons_append] at h ⊢
    split at h
    next u hu => exact ih h
    next => cases h
    next => cases h

theorem RunsTo.nil {s : State} {P : State → Prop} (h : P s) : RunsTo [] s P := by
  intro ops hops
  obtain rfl := List.map_eq_nil_iff.mp hops
  exact ⟨s, rfl, h⟩

theorem RunsTo.append {is js : List Instr} {s : State} {P Q : State → Prop} (h : RunsTo is s Q)
    (h' : ∀ t, Q t → RunsTo js t P) : RunsTo (is ++ js) s P := by
  intro ops hops
  obtain ⟨ops₁, ops₂, rfl, h₁, h₂⟩ := List.map_eq_append_iff.mp hops
  obtain ⟨t, hrun, hq⟩ := h ops₁ h₁
  rw [runOps_append hrun]
  exact h' t hq ops₂ h₂

/-- One presentation of the pins. -/
theorem RunsTo.pin {p15 p14 : Bool} {s : State} {P : State → Prop}
    (h : ∀ inp, P (({ s with inputs := inp } : State).presentPins p15 p14)) : RunsTo [pinOp p15 p14] s P := by
  intro ops hops
  obtain ⟨⟨i, inp⟩, rfl, rfl⟩ := List.map_eq_singleton_iff.mp hops
  exact ⟨_, by simp only [runOps, exec_pinOp], h inp⟩

theorem dataEdge_eq_pinOp (b : Bool) : dataEdge b = pinOp (!b) b := by
  revert b
  decide

/-! ### A packet bit by bit (40_serial_decoder.md rule R95, rule R96, rule R97) -/

/-- Bit `n` of a packet in the order of transmission, from 0: byte by byte, most significant bit first. -/
def packetBit (p : Packet) (n : Nat) : Bool := (p[n / 8]?.getD 0).getLsbD (7 - n % 8)

theorem packetBit_eq {p : Packet} {m k : Nat} (hm : m < 16) (hk : k < 8) :
    packetBit p (8 * m + k) = p[m].getLsbD (7 - k) := by
  have hdiv : (8 * m + k) / 8 = m := by omega
  have hmod : (8 * m + k) % 8 = k := by omega
  simp [packetBit, hdiv, hmod, hm]

/-- The decoder has consumed the first `n` bits of the packet `p` since a Pulse, with the queue `q`: the complete bytes
stand in `pkt_acc`, the bits of the byte in progress in `byte_acc`, the last one lowest. -/
structure State.Received (p : Packet) (q : List Packet) (n : Nat) (s : State) : Prop where
  pulseLock : s.pulseLock = false
  packetLock : s.packetLock = decide (n = 128)
  bitOffset : s.bitOffset.val = n % 8
  byteOffset : s.byteOffset.val = n / 8 % 16
  byteAcc : ∀ j < n % 8, s.byteAcc.getLsbD j = packetBit p (n - 1 - j)
  pktAcc : ∀ (m : Nat) (h : m < 16), m < n / 8 → s.pktAcc[m] = p[m]
  queue : s.queue = q

section Reception

variable {p : Packet} {q : List Packet} {n : Nat} {s : State}

/-- Shifting in the next bit keeps the last bits received in order (rule R95). -/
theorem State.Received.shiftConcat (h : s.Received p q n) {j : Nat} (hj : j ≤ n % 8) :
    (s.byteAcc.shiftConcat (packetBit p n)).getLsbD j = packetBit p (n - j) := by
  have hlt : n % 8 < 8 := Nat.mod_lt n (by decide)
  cases j with
  | zero => simp
  | succ j =>
    have hprev := h.byteAcc j (by omega)
    rw [show n - 1 - j = n - (j + 1) by omega] at hprev
    simp [BitVec.getLsbD_shiftConcat, hprev]
    omega

/-- The eighth bit completes the byte that was sent. -/
theorem State.Received.byte_complete (h : s.Received p q n) (hn : n < 128) (hlast : n % 8 = 7) :
    s.byteAcc.shiftConcat (packetBit p n) = p[n / 8] := by
  apply BitVec.eq_of_getLsbD_eq
  intro j hj
  rw [h.shiftConcat (by omega), show n - j = 8 * (n / 8) + (7 - j) by omega,
    packetBit_eq (by omega) (by omega), show 7 - (7 - j) = j by omega]

/-- Storing that byte extends the complete bytes of the packet by one. -/
theorem State.Received.pktAcc_set (h : s.Received p q n) (hn : n < 128) (hlast : n % 8 = 7) (m : Nat) (hm : m < 16)
    (hle : m < (n + 1) / 8) :
    (s.pktAcc.set (n / 8) (s.byteAcc.shiftConcat (packetBit p n)))[m] = p[m] := by
  rw [h.byte_complete hn hlast, Vector.getElem_set]
  split
  next heq => simp [heq]
  next hne => exact h.pktAcc m hm (by omega)

theorem State.Received.packetLock_eq_false (h : s.Received p q n) (hn : n < 128) : s.packetLock = false := by
  rw [h.packetLock, decide_eq_false hn.ne]

/-- One bit more, wherever it falls: at the end of the packet, at the end of a byte, within a byte. -/
theorem State.Received.consumeBit (h : s.Received p q n) (hn : n < 128) :
    (s.consumeBit (packetBit p n)).Received p q (n + 1) := by
  have hbit := h.bitOffset
  have hbyte := h.byteOffset
  by_cases hlast : n % 8 = 7
  · have hbit7 : s.bitOffset = 7 := Fin.ext (by omega)
    have hbytes := h.pktAcc_set hn hlast
    by_cases hend : n / 8 = 15
    · have hbyte15 : s.byteOffset = 15 := Fin.ext (by omega)
      rw [s.consumeBit_ends_packet _ hbit7 hbyte15]
      exact {
        pulseLock := h.pulseLock
        packetLock := by simp; omega
        bitOffset := by simp; omega
        byteOffset := by simp; omega
        byteAcc := by omega
        pktAcc := by simpa only [hend] using hbytes
        queue := h.queue }
    · have hval : s.byteOffset.val = n / 8 := by omega
      rw [s.consumeBit_ends_byte _ hbit7 (by omega)]
      exact {
        pulseLock := h.pulseLock
        packetLock := by simp [h.packetLock_eq_false hn]; omega
        bitOffset := by simp; omega
        byteOffset := by simp [Fin.val_add]; omega
        byteAcc := by omega
        pktAcc := by simpa only [hval] using hbytes
        queue := h.queue }
  · rw [s.consumeBit_within_byte _ (by omega)]
    exact {
      pulseLock := h.pulseLock
      packetLock := by simp [h.packetLock_eq_false hn]; omega
      bitOffset := by simp [Fin.val_add]; omega
      byteOffset := by simp; omega
      byteAcc := fun j hj => by
        rw [h.shiftConcat (by omega), show n + 1 - 1 - j = n - j by omega]
      pktAcc := fun m hm hlt => h.pktAcc m hm (by omega)
      queue := h.queue }

/-- The inputs, the outputs and the mux are no part of what the decoder has received: it is what the decoder part of
the next presentation starts from. -/
theorem State.Received.before_decoderPart (h : s.Received p q n) (inp : Inputs) (p15 p14 : Bool) :
    ((({ s with inputs := inp } : State).emit Output.silent).muxPart p15 p14).Received p q n :=
  ⟨h.pulseLock, h.packetLock, h.bitOffset, h.byteOffset, h.byteAcc, h.pktAcc, h.queue⟩

/-- The decoder has received `n` bits of a packet and both-high after them: the next data edge is accepted. -/
def State.Ready (p : Packet) (q : List Packet) (n : Nat) (s : State) : Prop :=
  s.Received p q n ∧ s.strobeLock = false

/-- After a Pulse nothing has been received (rule R91). -/
theorem State.runsTo_pulse (p : Packet) (s : State) : RunsTo [pinOp false false] s (State.Received p s.queue 0) := by
  refine RunsTo.pin fun inp => ?_
  rw [State.presentPins, State.decoderPart_pulse]
  exact ⟨rfl, rfl, rfl, rfl, by simp, by simp, rfl⟩

/-- Both-high readies the decoder and keeps what it has received (rule R93). -/
theorem State.Received.runsTo_bothHigh (h : s.Received p q n) : RunsTo [pinOp true true] s (State.Ready p q n) := by
  refine RunsTo.pin fun inp => ?_
  have hmux := h.before_decoderPart inp true true
  rw [State.presentPins, State.decoderPart_bothHigh _ hmux.pulseLock]
  exact ⟨⟨hmux.pulseLock, hmux.packetLock, hmux.bitOffset, hmux.byteOffset, hmux.byteAcc, hmux.pktAcc, hmux.queue⟩,
    rfl⟩

/-- A ready decoder receives the data edge of the next bit. -/
theorem State.Ready.runsTo_dataEdge (h : s.Ready p q n) (hn : n < 128) :
    RunsTo [dataEdge (packetBit p n)] s (State.Received p q (n + 1)) := by
  obtain ⟨hreceived, hstrobe⟩ := h
  rw [dataEdge_eq_pinOp]
  refine RunsTo.pin fun inp => ?_
  have hmux := hreceived.before_decoderPart inp (!packetBit p n) (packetBit p n)
  rw [State.presentPins, State.decoderPart_consume _ (by simp) hmux.pulseLock hstrobe (hmux.packetLock_eq_false hn)]
  exact hmux.consumeBit hn

/-- What the commit of a packet sent from `s` leaves: it stands behind those queued in `s` if there was room, and the
decoder is Idle-locked. -/
def State.Committed (p : Packet) (s t : State) : Prop :=
  t.queue = (s.enqueue p).queue ∧ t.pulseLock = true ∧ t.packetLock = false

/-- With the whole packet received and both-high after it, the commit edge enqueues it (rule R98). -/
theorem State.Ready.runsTo_commitEdge {s₀ : State} (h : s.Ready p s₀.queue 128) :
    RunsTo [pinOp true false] s (State.Committed p s₀) := by
  obtain ⟨hreceived, hstrobe⟩ := h
  have hpkt : s.pktAcc = p := Vector.ext fun m hm => hreceived.pktAcc m hm hm
  refine RunsTo.pin fun inp => ?_
  have hmux := hreceived.before_decoderPart inp true false
  rw [State.presentPins, State.decoderPart_commit _ hmux.pulseLock hstrobe hmux.packetLock]
  rw [State.Committed, State.enqueue_queue, ← hreceived.queue, ← hpkt]
  exact ⟨rfl, rfl, rfl⟩

/-! ### The pseudo-operations `SENDBIT`, `SENDBYTE` and `SENDPKT` (30_encoding.md rule R78) -/

theorem State.Received.runsTo_sendBit (h : s.Received p q n) (hn : n < 128) :
    RunsTo (sendBit (packetBit p n)) s (State.Received p q (n + 1)) :=
  h.runsTo_bothHigh.append fun _ hready => hready.runsTo_dataEdge hn

/-- The first `k` bit frames of byte `m`. -/
theorem State.Received.runsTo_sendBits {m k : Nat} (h : s.Received p q (8 * m)) (hm : m < 16) (hk : k ≤ 8) :
    RunsTo ((List.range k).flatMap fun j => sendBit (p[m].getLsbD (7 - j))) s (State.Received p q (8 * m + k)) := by
  induction k with
  | zero => exact RunsTo.nil h
  | succ k ih =>
    rw [List.range_succ, List.flatMap_append, List.flatMap_singleton, ← packetBit_eq hm (by omega)]
    exact (ih (by omega)).append fun _ ht => ht.runsTo_sendBit (by omega)

theorem State.Received.runsTo_sendByte {m : Nat} (h : s.Received p q (8 * m)) (hm : m < 16) :
    RunsTo (sendByte p[m]) s (State.Received p q (8 * (m + 1))) :=
  h.runsTo_sendBits hm le_rfl

/-- The first `m` bytes of the packet. -/
theorem State.Received.runsTo_sendBytes (h : s.Received p q 0) {m : Nat} (hm : m ≤ 16) :
    RunsTo ((p.toList.take m).flatMap sendByte) s (State.Received p q (8 * m)) := by
  induction m with
  | zero => exact RunsTo.nil h
  | succ m ih =>
    rw [List.take_succ_eq_append_getElem (by simpa using hm), List.flatMap_append, List.flatMap_singleton,
      Vector.getElem_toList]
    exact (ih (by omega)).append fun _ ht => ht.runsTo_sendByte hm

end Reception

/-- `SENDPKT` by its parts: Pulse, the sixteen bytes, both-high, the commit edge (30_encoding.md rule R64). -/
theorem sendPacket_eq (p : Packet) :
    sendPacket p =
      [pinOp false false] ++ (p.toList.take 16).flatMap sendByte ++ [pinOp true true] ++ [pinOp true false] := by
  rw [List.take_of_length_le (by simp)]
  rfl

/-- `SENDPKT` from any state commits its packet (rule R106, rule R104). -/
theorem State.runsTo_sendPacket (p : Packet) (s : State) : RunsTo (sendPacket p) s (State.Committed p s) := by
  rw [sendPacket_eq]
  have hbytes := (s.runsTo_pulse p).append fun _ ht => ht.runsTo_sendBytes (m := 16) le_rfl
  exact (hbytes.append fun _ ht => ht.runsTo_bothHigh).append fun _ hready => hready.runsTo_commitEdge

/-! ### Overflow (41_packet_fifo.md rule R111, rule R114) -/

/-- Keeping the first `k` after each append keeps the first `k` of all. -/
theorem take_take_append {α : Type} (k : Nat) (l m : List α) : (l.take k ++ m).take k = (l ++ m).take k := by
  rw [List.take_append, List.take_append, List.take_take, Nat.min_self, List.length_take,
    show k - min k l.length = k - l.length by omega]

/-- Enqueueing appends and keeps the first 64. -/
theorem State.enqueue_queue_eq_take (p : Packet) (s : State) (h : s.queue.length ≤ 64) :
    (s.enqueue p).queue = (s.queue ++ [p]).take 64 := by
  rw [State.enqueue_queue]
  split
  next hroom => rw [List.take_of_length_le (by simpa using hroom)]
  next hfull => rw [List.take_append_of_le_length (Nat.le_of_not_lt hfull), List.take_of_length_le h]

/-- Any number of packets from a queue within its capacity, the last one sent last. -/
theorem State.runsTo_sendPackets (ps : List Packet) (s : State) (h : s.queue.length ≤ 64) :
    RunsTo (ps.flatMap sendPacket) s fun t =>
      t.queue = (s.queue ++ ps).take 64 ∧ (ps ≠ [] → t.pulseLock = true ∧ t.packetLock = false) := by
  induction ps using List.reverseRecOn with
  | nil => exact RunsTo.nil ⟨by simpa using (List.take_of_length_le h).symm, fun hne => absurd rfl hne⟩
  | append_singleton ps p ih =>
    rw [List.flatMap_append, List.flatMap_singleton]
    refine ih.append fun t ⟨hqueue, _⟩ ops hops => ?_
    obtain ⟨u, hrun, hu, hflags⟩ := t.runsTo_sendPacket p ops hops
    refine ⟨u, hrun, ?_, fun _ => hflags⟩
    have hbound : t.queue.length ≤ 64 := by rw [hqueue]; exact List.length_take_le ..
    rw [hu, t.enqueue_queue_eq_take p hbound, hqueue, take_take_append, List.append_assoc]

/-- Settles O30, by induction on the packets sent, the last one last. -/
theorem overflowDropsTheNewest : Obligations.OverflowDropsTheNewest := by
  unfold Obligations.OverflowDropsTheNewest
  exact fun ps ops s h => s.runsTo_sendPackets ps h ops

end Sys2Proof.Machine
end

section
/-! Proofs of the family `43_renderer.md`: white and black rows (rule R146), the render without history (rule R147), the
read-out (rule R148) and the frame of the row buffer (rule R149). -/

namespace Sys2Proof.Machine

/-- `ROWSEL` of an accepted row renders the strip (rule R141). -/
theorem exec_rowsel_of_lt {row : BitVec 5} (h : row.toNat < 20) (s : State) :
    exec (.rowsel row) s = .next ((s.selectRow row).emit Output.silent) :=
  if_neg (Nat.not_le.mpr h)

/-! ### A bit of the buffer comes from one pixel (rule R144) -/

/-- The strip column whose pixels bit `j` of buffer byte `k` belongs to. -/
def bitColumn (k : Fin 320) (j : Fin 8) : Fin 160 := ⟨8 * (k.val / 16) + (7 - j.val), by omega⟩

/-- The strip scanline whose pixels buffer byte `k` belongs to. -/
def byteLine (k : Fin 320) : Fin 8 := ⟨k.val % 16 / 2, by omega⟩

/-- Bit `j` of buffer byte `k`. -/
def bufferBit (k : Fin 320) (j : Fin 8) (v : RowBuffer) : Bool := v[k].getLsbD j.val

theorem planeBit_getLsbD (b : Bool) (x : Fin 160) (j : Fin 8) :
    (planeBit b x).getLsbD j.val = (decide (j.val = 7 - x.val % 8) && b) := by
  have hplace : 7 ≤ j.val + x.val % 8 ∧ j.val - (7 - x.val % 8) = 0 ↔ j.val = 7 - x.val % 8 := by omega
  have hbyte : j.val - (7 - x.val % 8) < 8 := by omega
  rw [planeBit, BitVec.getLsbD_shiftLeft, BitVec.getLsbD_setWidth, BitVec.getLsbD_ofBool, Bool.eq_iff_iff]
  simp [hbyte, ← hplace, and_assoc]

/-- A pixel is ORed into its two plane bytes, each with its own bit of the index (rule R144). -/
theorem orPixel_getElem (index : BitVec 2) (v : RowBuffer) (x : Fin 160) (y : Fin 8) (k : Fin 320) :
    (orPixel index v x y)[k] =
      if planeIndex x y + k.val % 2 = k.val then v[k] ||| planeBit (index.getLsbD (k.val % 2)) x else v[k] := by
  have heven : planeIndex x y % 2 = 0 := by unfold planeIndex; omega
  simp only [orPixel, Fin.getElem_fin, Vector.getElem_set]
  split
  next hodd =>
    have hplane : k.val % 2 = 1 := by omega
    have hne : planeIndex x y ≠ k.val := by omega
    simp [hplane, hodd, hne]
  next hodd =>
    split
    next heq =>
      have hplane : k.val % 2 = 0 := by omega
      simp [hplane, heq]
    next hne =>
      have helsewhere : planeIndex x y + k.val % 2 ≠ k.val := by omega
      simp [helsewhere]

/-- The byte and the bit that a pixel is ORed into determine its strip position. -/
theorem position_iff (x : Fin 160) (y : Fin 8) (k : Fin 320) (j : Fin 8) :
    planeIndex x y + k.val % 2 = k.val ∧ j.val = 7 - x.val % 8 ↔ x = bitColumn k j ∧ y = byteLine k := by
  simp only [planeIndex, bitColumn, byteLine, Fin.ext_iff]
  omega

/-- ORing in a pixel sets the bits of its own position and leaves the others (rule R141). -/
theorem orPixel_bufferBit (index : BitVec 2) (v : RowBuffer) (x : Fin 160) (y : Fin 8) (k : Fin 320) (j : Fin 8) :
    bufferBit k j (orPixel index v x y) =
      (bufferBit k j v || (decide (x = bitColumn k j ∧ y = byteLine k) && index.getLsbD (k.val % 2))) := by
  rw [bufferBit, orPixel_getElem, bufferBit]
  simp only [← position_iff]
  split
  next hbyte => rw [BitVec.getLsbD_or, planeBit_getLsbD]; simp [hbyte]
  next hbyte => simp [hbyte]

/-- A fold whose every step ORs something into a bit of the result. -/
theorem foldl_eq_or_any {α β : Type} {f : β → α → β} {bit : β → Bool} {p : α → Bool}
    (h : ∀ b a, bit (f b a) = (bit b || p a)) (l : List α) (b : β) : bit (l.foldl f b) = (bit b || l.any p) := by
  induction l generalizing b with
  | nil => simp
  | cons a rest ih => rw [List.foldl_cons, ih, h, List.any_cons, Bool.or_assoc]

/-- Every bit of the rendered buffer is a bit of the colour index at its position (rule R145). -/
theorem renderStrip_bufferBit (index : Fin 160 → Fin 8 → BitVec 2) (k : Fin 320) (j : Fin 8) :
    bufferBit k j (renderStrip index) = (index (bitColumn k j) (byteLine k)).getLsbD (k.val % 2) := by
  have hline (v : RowBuffer) (y : Fin 8) := foldl_eq_or_any (bit := bufferBit k j)
    (fun v x => orPixel_bufferBit (index x y) v x y k j) (List.finRange 160) v
  have hstrip := foldl_eq_or_any hline (List.finRange 8) (Vector.replicate 320 0x00#8)
  have hzero : bufferBit k j (Vector.replicate 320 0x00#8) = false := by simp [bufferBit]
  unfold renderStrip
  rw [hstrip, hzero, Bool.eq_iff_iff]
  simp [List.any_eq_true]

/-- A strip of one colour index renders to bytes of one bit, that of the byte's plane. -/
theorem renderStrip_const (c : BitVec 2) (k : Fin 320) :
    (renderStrip fun _ _ => c)[k] = BitVec.fill 8 (c.getLsbD (k.val % 2)) := by
  refine BitVec.eq_of_getLsbD_eq fun j hj => ?_
  have hbit : (renderStrip fun _ _ => c)[k].getLsbD j = c.getLsbD (k.val % 2) :=
    renderStrip_bufferBit (fun _ _ => c) k ⟨j, hj⟩
  rw [hbit, BitVec.getLsbD_fill]
  simp [hj]

theorem renderStrip_white (k : Fin 320) : (renderStrip fun _ _ => 0#2)[k] = 0x00#8 := by
  rw [renderStrip_const, BitVec.getLsbD_zero]
  decide

theorem renderStrip_black (k : Fin 320) : (renderStrip fun _ _ => 3#2)[k] = 0xFF#8 := by
  rw [renderStrip_const]
  obtain hplane | hplane := Nat.mod_two_eq_zero_or_one k.val <;> rw [hplane] <;> decide

/-- Settles O55: the colour index of white is 0 and that of black is 3. -/
theorem whiteAndBlackRows : Obligations.WhiteAndBlackRows := by
  unfold Obligations.WhiteAndBlackRows
  intro row s hrow
  refine ⟨fun hwhite => ⟨_, exec_rowsel_of_lt hrow s, fun k => ?_⟩,
    fun hblack => ⟨_, exec_rowsel_of_lt hrow s, fun k => ?_⟩⟩
  · simpa [hwhite] using renderStrip_white k
  · simpa [hblack] using renderStrip_black k

/-! ### What each operation does to the row buffer (rule R148, rule R149) -/

/-- From `s` to `t` the buffer and the row index are kept, and the cursor moves as `n` reads of the data port move it. -/
structure State.ReadOut (s : State) (n : Nat) (t : State) : Prop where
  vram : t.vram = s.vram
  vramRow : t.vramRow = s.vramRow
  vramCursor : t.vramCursor.val = (s.vramCursor.val + n) % 320

theorem State.ReadOut.of_kept {s t : State} (hvram : t.vram = s.vram) (hrow : t.vramRow = s.vramRow)
    (hcursor : t.vramCursor = s.vramCursor) : s.ReadOut 0 t :=
  ⟨hvram, hrow, by rw [hcursor, Nat.add_zero, Nat.mod_eq_of_lt s.vramCursor.isLt]⟩

theorem State.ReadOut.cursor_kept {s t : State} (h : s.ReadOut 0 t) : t.vramCursor = s.vramCursor :=
  Fin.ext (by rw [h.vramCursor, Nat.add_zero, Nat.mod_eq_of_lt s.vramCursor.isLt])

theorem State.ReadOut.trans {s t u : State} {m n : Nat} (h : s.ReadOut m t) (h' : t.ReadOut n u) :
    s.ReadOut (m + n) u :=
  ⟨h'.vram.trans h.vram, h'.vramRow.trans h.vramRow,
    by rw [h'.vramCursor, h.vramCursor, Nat.mod_add_mod, Nat.add_assoc]⟩

theorem State.presentPins_readOut (p15 p14 : Bool) (s : State) : s.ReadOut 0 (s.presentPins p15 p14) :=
  .of_kept (s.presentPins_vram p15 p14) (s.presentPins_vramRow p15 p14) (s.presentPins_vramCursor p15 p14)

theorem State.popAndLatch_readOut (s : State) : s.ReadOut 0 s.popAndLatch.2 := by
  cases hq : s.queue with
  | nil => rw [State.popAndLatch_empty s hq]; exact .of_kept rfl rfl rfl
  | cons p rest => rw [State.popAndLatch_front s hq]; exact .of_kept rfl rfl rfl

/-- An operation other than a row select or a reset completes, and only the data port moves the cursor (rule R149). -/
theorem exec_readOut {i : Instr} {s : State} (hreset : isReset i s = false) (hrow : ∀ row, i ≠ .rowsel row) :
    ∃ t, exec i s = .next t ∧ s.ReadOut ([i].count .rdVram) t := by
  cases i with
  | pinPulse | pinZero | pinOne | pinIdle => exact ⟨_, rfl, s.presentPins_readOut _ _⟩
  | reset | power => simp [isReset] at hreset
  | rdLy | rdCtrl | rdPkt | rdOther | wrJoy | wrOther | joypoll | run => exact ⟨_, rfl, .of_kept rfl rfl rfl⟩
  | rdVram => exact ⟨_, rfl, rfl, rfl, Fin.val_add _ _⟩
  | rdStatus =>
    obtain ⟨hvram, hvramRow, hcursor⟩ := s.popAndLatch_readOut
    exact ⟨_, rfl, hvram, hvramRow, hcursor⟩
  | wrCtrl data => exact ⟨_, execWrCtrl_of_not_enableRises hreset, .of_kept rfl rfl rfl⟩
  | rowsel row => exact absurd rfl (hrow row)

theorem runOps_cons_of_next {i : Instr} {inp : Inputs} {rest : List Timed} {s t : State}
    (h : exec i { s with inputs := inp } = .next t) : runOps ((i, inp) :: rest) s = runOps rest t := by
  simp only [runOps, h]

theorem resetFree_cons_of_next {i : Instr} {inp : Inputs} {rest : List Timed} {s t : State}
    (h : exec i { s with inputs := inp } = .next t) :
    resetFree ((i, inp) :: rest) s = (!isReset i s && resetFree rest t) := by
  simp only [resetFree, h]

/-- A sequence of such operations moves the cursor by the reads of the data port among them. -/
theorem runOps_readOut {ops : List Timed} {s : State} (hreset : resetFree ops s = true)
    (hrow : ∀ o ∈ ops, ∀ row, o.1 ≠ .rowsel row) :
    ∃ t, runOps ops s = .next t ∧ s.ReadOut ((ops.map Prod.fst).count .rdVram) t := by
  induction ops generalizing s with
  | nil => exact ⟨s, rfl, .of_kept rfl rfl rfl⟩
  | cons o rest ih =>
    obtain ⟨i, inp⟩ := o
    obtain ⟨hfirst, hrest⟩ := List.forall_mem_cons.mp hrow
    have hi : isReset i s = false := by
      rw [resetFree, Bool.and_eq_true, Bool.not_eq_true'] at hreset
      exact hreset.1
    obtain ⟨t, hexec, ht⟩ := exec_readOut (s := { s with inputs := inp }) hi hfirst
    rw [resetFree_cons_of_next hexec, hi, Bool.not_false, Bool.true_and] at hreset
    obtain ⟨u, hrun, hu⟩ := ih hreset hrest
    refine ⟨u, (runOps_cons_of_next hexec).trans hrun, ?_⟩
    rw [List.map_cons, ← List.singleton_append, List.count_append]
    exact .trans ⟨ht.vram, ht.vramRow, ht.vramCursor⟩ hu

/-- A read of the data port returns the buffer byte at the cursor (44_bus_registers.md rule R160). -/
theorem runOps_rdVram (inp : Inputs) (s : State) :
    ∃ t, runOps [(.rdVram, inp)] s = .next t ∧ t.out.data = some s.vram[s.vramCursor] := ⟨_, rfl, rfl⟩

/-- Settles O56: the buffer is a function of the strip's pixels, and operations between two row selects are a
read-out. -/
theorem renderHasNoHistory : Obligations.RenderHasNoHistory := by
  unfold Obligations.RenderHasNoHistory
  refine ⟨fun row row' s s' hrow hrow' hstrip => ?_, fun ops s t hreset hrow h => ?_⟩
  · refine ⟨_, _, exec_rowsel_of_lt hrow s, exec_rowsel_of_lt hrow' s', ?_⟩
    simp only [State.emit_vram, State.selectRow_vram, hstrip]
  · obtain ⟨u, hrun, hu⟩ := runOps_readOut hreset hrow
    cases hrun.symm.trans h
    exact hu.vram

/-- Settles O57: `ROWSEL` puts the cursor at 0, and the operations after it move it by the reads among them. -/
theorem readOutWraps : Obligations.ReadOutWraps := by
  unfold Obligations.ReadOutWraps
  intro row ops inp s hrow hother
  refine ⟨_, exec_rowsel_of_lt hrow s, fun hreset => ?_⟩
  obtain ⟨t, hrun, hvram, -, hcursor⟩ := runOps_readOut hreset hother
  obtain ⟨v, hread, hdata⟩ := runOps_rdVram inp t
  refine ⟨v, (runOps_append hrun).trans hread, ?_⟩
  rw [State.emit_vramCursor, State.selectRow_vramCursor, Fin.val_zero, Nat.zero_add] at hcursor
  rw [hdata, ← hvram, ← hcursor]
  exact (Vector.getElem?_eq_getElem t.vramCursor.isLt).symm

/-- Settles O58: a row select by its result, every other operation by `exec_readOut`. -/
theorem rowBufferFrame : Obligations.RowBufferFrame := by
  unfold Obligations.RowBufferFrame
  refine ⟨fun row s t h => ?_, fun i s t h hreset hrow => ?_⟩
  · cases eq_of_execRowsel_next h
    exact ⟨.refl s, rfl, rfl, rfl, rfl, rfl, rfl, rfl⟩
  · obtain ⟨u, hexec, hu⟩ := exec_readOut hreset hrow
    cases hexec.symm.trans h
    refine ⟨hu.vram, hu.vramRow, fun hne => State.ReadOut.cursor_kept ?_⟩
    rwa [List.count_singleton, if_neg (by simpa using hne)] at hu

end Sys2Proof.Machine
end

section
/-! Proofs of the family `44_bus_registers.md`: what each read returns and writes (rule R156 to rule R162), what each
write writes (rule R163 to rule R166), and the two frames (rule R161, rule R165). -/

namespace Sys2Proof.Machine

/-! ### The reads -/

/-- Settles O37: the arms of `exec`, and addition in `Fin 320` is the advance modulo 320. -/
theorem readResults : Obligations.ReadResults := by
  unfold Obligations.ReadResults
  refine ⟨fun _ => rfl, fun _ _ => rfl, fun s => ⟨s.vramCursor + 1, ?_, rfl⟩, fun _ _ => rfl⟩
  exact Fin.val_add s.vramCursor 1

/-- What a read may write: the queue and the window, in a status read that finds a packet, and the cursor, in a read of
the data port (rule R161). -/
theorem exec_read_eq {i : Instr} {s t : State} (hread : isRead i = true) (h : exec i s = .next t) :
    ∃ (queue : List Packet) (window : Packet) (cursor : Fin 320) (o : Output),
      t = { s with queue := queue, pktWindow := window, vramCursor := cursor, out := o } ∧
      (i ≠ .rdStatus ∨ s.queue = [] → queue = s.queue ∧ window = s.pktWindow) ∧
      (i ≠ .rdVram → cursor = s.vramCursor) := by
  cases i with
  | rdLy | rdCtrl | rdPkt | rdOther =>
    cases h
    exact ⟨_, _, _, _, rfl, fun _ => ⟨rfl, rfl⟩, fun _ => rfl⟩
  | rdVram =>
    cases h
    exact ⟨_, _, _, _, rfl, fun _ => ⟨rfl, rfl⟩, fun hport => absurd rfl hport⟩
  | rdStatus =>
    cases h
    cases hq : s.queue with
    | nil =>
      rw [State.popAndLatch_empty s hq]
      exact ⟨_, _, _, _, rfl, fun _ => ⟨hq, rfl⟩, fun _ => rfl⟩
    | cons p rest =>
      rw [State.popAndLatch_front s hq]
      exact ⟨_, _, _, _, rfl, by simp, fun _ => rfl⟩
  | pinPulse | pinZero | pinOne | pinIdle | wrCtrl | wrJoy | wrOther | rowsel | reset | power | joypoll | run =>
    simp [isRead] at hread

/-- Settles O40: every element `exec_read_eq` does not name is kept. -/
theorem readFrame : Obligations.ReadFrame := by
  unfold Obligations.ReadFrame
  intro i s t hread h
  obtain ⟨queue, window, cursor, o, rfl, hstatus, hport⟩ := exec_read_eq hread h
  exact ⟨.refl s, rfl, rfl, rfl, rfl, rfl, rfl, rfl, hstatus, hport⟩

/-! ### The writes -/

/-- A joypad write leaves the other joypad registers alone (rule R164). -/
theorem joy_set_getElem_ne (joy : Vector Byte 4) (slot : BitVec 2) (data : Byte) {k : Fin 4}
    (h : k.val ≠ slot.toNat) : (joy.set slot.toNat data slot.isLt)[k] = joy[k] :=
  Vector.getElem_set_ne slot.isLt k.isLt h.symm

/-- Settles O44: the arms of `exec`, and what the updated vector holds at the slot and elsewhere. -/
theorem joypadAndIgnoredWrites : Obligations.JoypadAndIgnoredWrites := by
  unfold Obligations.JoypadAndIgnoredWrites
  refine ⟨fun slot data s => ⟨s.joy.set slot.toNat data slot.isLt, rfl, ?_, fun k => ?_⟩, fun _ _ _ => rfl⟩
  · exact Vector.getElem_set_self slot.isLt
  · exact joy_set_getElem_ne s.joy slot data

/-- What a write without the enable transition may write: `ctrl`, `mlt_mode` and `joy_id`, in `WR.CTRL`, and the
addressed joypad register, in `WR.JOY` (rule R165). -/
theorem exec_write_eq {i : Instr} {s t : State} (hwrite : isWrite i = true) (hreset : isReset i s = false)
    (h : exec i s = .next t) :
    ∃ (ctrl : Byte) (mode id : BitVec 2) (joy : Vector Byte 4),
      t = { s with ctrl := ctrl, mltMode := mode, joyId := id, joy := joy, out := Output.silent } ∧
      ((∀ data, i ≠ .wrCtrl data) → ctrl = s.ctrl ∧ mode = s.mltMode ∧ id = s.joyId) ∧
      ∀ k : Fin 4, (∀ (slot : BitVec 2) (data : Byte), i = .wrJoy slot data → k.val ≠ slot.toNat) →
        joy[k] = s.joy[k] := by
  cases i with
  | wrCtrl data =>
    cases (execWrCtrl_of_not_enableRises hreset).symm.trans h
    exact ⟨_, _, _, _, rfl, fun hctrl => absurd rfl (hctrl data), fun _ _ => rfl⟩
  | wrJoy slot data =>
    cases h
    exact ⟨_, _, _, _, rfl, fun _ => ⟨rfl, rfl, rfl⟩,
      fun k hslot => joy_set_getElem_ne s.joy slot data (hslot slot data rfl)⟩
  | wrOther =>
    cases h
    exact ⟨_, _, _, _, rfl, fun _ => ⟨rfl, rfl, rfl⟩, fun _ _ => rfl⟩
  | pinPulse | pinZero | pinOne | pinIdle | rdLy | rdStatus | rdCtrl | rdPkt | rdVram | rdOther | rowsel | reset
  | power | joypoll | run => simp [isWrite] at hwrite

/-- Settles O41: every element `exec_write_eq` does not name is kept. -/
theorem writeFrame : Obligations.WriteFrame := by
  unfold Obligations.WriteFrame
  intro i s t hwrite hreset h
  obtain ⟨ctrl, mode, id, joy, rfl, hctrl, hjoy⟩ := exec_write_eq hwrite hreset h
  exact ⟨.refl s, rfl, rfl, rfl, rfl, rfl, rfl, hctrl, hjoy⟩

end Sys2Proof.Machine
end

section
/-! Proofs of the encoding (30_encoding.md section 3, section 4, section 7): decode and encode agree, and decoding
selects the row of the opcode table. -/

namespace Sys2Proof

/-! ### Words whose high bits are fixed -/

/-- A word whose bits above the low `k` are `hi` is `hi` followed by its own `k` low bits. -/
theorem append_low_of_masked {m k : Nat} {hi : BitVec m} {w : BitVec (m + k)}
    (h : w &&& (BitVec.allOnes m ++ 0#k) = hi ++ 0#k) : hi ++ w.extractLsb' 0 k = w := by
  apply BitVec.eq_of_getLsbD_eq
  intro j hj
  rw [BitVec.getLsbD_append]
  by_cases hlow : j < k
  · simp [hlow]
  · have hbit := congrArg (BitVec.getLsbD · j) h
    have hhigh : j - k < m := by omega
    simpa [BitVec.getLsbD_append, hlow, hhigh] using hbit.symm

/-- An address of the window is its base followed by the index (30_encoding.md rule R66). -/
theorem windowAddr_fields {a : Addr} (h : a &&& 0xFFF0#16 = 0x7000#16) : 0x700#12 ++ a.extractLsb' 0 4 = a :=
  append_low_of_masked (m := 12) h

/-- A joypad address is its base followed by the slot (30_encoding.md rule R67). -/
theorem joypadAddr_fields {a : Addr} (h : a &&& 0xFFFC#16 = 0x6004#16) : 0x1801#14 ++ a.extractLsb' 0 2 = a :=
  append_low_of_masked (m := 14) h

/-! ### The addresses no register answers -/

theorem readRegister_eq_false_iff {a : Addr} :
    readRegister a = false ↔
      a ≠ 0x6000#16 ∧ a ≠ 0x6002#16 ∧ a ≠ 0x6003#16 ∧ a &&& 0xFFF0#16 ≠ 0x7000#16 ∧ a ≠ 0x7800#16 := by
  simp [readRegister, and_assoc]

theorem writeRegister_eq_false_iff {a : Addr} :
    writeRegister a = false ↔ a ≠ 0x6003#16 ∧ a &&& 0xFFFC#16 ≠ 0x6004#16 := by
  simp [writeRegister]

theorem decodeRead_of_not_register {a : Addr} (h : readRegister a = false) : decodeRead a = .rdOther a := by
  obtain ⟨hly, hstatus, hctrl, hwindow, hport⟩ := readRegister_eq_false_iff.mp h
  simp [decodeRead, hly, hstatus, hctrl, hwindow, hport]

theorem decodeWriteAt_of_not_register {a : Addr} (h : writeRegister a = false) (d : Byte) :
    decodeWriteAt a d = .wrOther a d := by
  obtain ⟨hctrl, hjoy⟩ := writeRegister_eq_false_iff.mp h
  simp [decodeWriteAt, hctrl, hjoy]

/-! ### Decode after encode -/

theorem decodeWriteAt_joypad (slot : BitVec 2) (d : Byte) :
    decodeWriteAt (0x1801#14 ++ slot) d = .wrJoy slot d := by
  obtain ⟨hctrl, hjoy, hslot⟩ := joyAddr_fields slot
  rw [decodeWriteAt, if_neg hctrl, if_pos hjoy, hslot]

theorem decode_encode {i : Instr} (hwf : i.wf = true) : decode (encode i) = i := by
  cases i with
  | pinPulse | pinZero | pinOne | pinIdle | rdLy | rdStatus | rdCtrl | rdVram | rowsel | reset | power | joypoll
  | run => rfl
  | rdPkt idx =>
    revert idx
    decide
  | rdOther a => exact decodeRead_of_not_register (by simpa [Instr.wf] using hwf)
  | wrCtrl d => exact decodeWrite_append 0x6003#16 d
  | wrJoy slot d => exact (decodeWrite_append _ d).trans (decodeWriteAt_joypad slot d)
  | wrOther a d =>
    exact (decodeWrite_append a d).trans (decodeWriteAt_of_not_register (by simpa [Instr.wf] using hwf) d)

/-- Settles O1. -/
theorem decodeOfEncode : Obligations.DecodeOfEncode := by
  unfold Obligations.DecodeOfEncode
  exact fun _ => decode_encode

/-! ### Encode after decode -/

theorem decodeRead_wf_encode (a : Addr) : (decodeRead a).wf = true ∧ encode (decodeRead a) = .rd a := by
  cases hreg : readRegister a with
  | false =>
    rw [decodeRead_of_not_register hreg]
    exact ⟨by simp [Instr.wf, hreg], rfl⟩
  | true =>
    unfold decodeRead
    split_ifs with hly hstatus hctrl hwindow hport
    · exact ⟨rfl, by rw [hly, encode]⟩
    · exact ⟨rfl, by rw [hstatus, encode]⟩
    · exact ⟨rfl, by rw [hctrl, encode]⟩
    · exact ⟨rfl, by rw [encode, windowAddr_fields hwindow]⟩
    · exact ⟨rfl, by rw [hport, encode]⟩
    · exact absurd (readRegister_eq_false_iff.mpr ⟨hly, hstatus, hctrl, hwindow, hport⟩) (by simp [hreg])

theorem decodeWriteAt_wf_encode (a : Addr) (d : Byte) :
    (decodeWriteAt a d).wf = true ∧ encode (decodeWriteAt a d) = .wr (a ++ d) := by
  unfold decodeWriteAt
  split_ifs with hctrl hjoy
  · exact ⟨rfl, by rw [hctrl, encode]⟩
  · exact ⟨rfl, by rw [encode, joypadAddr_fields hjoy]⟩
  · exact ⟨by simp [Instr.wf, writeRegister_eq_false_iff.mpr ⟨hctrl, hjoy⟩], rfl⟩

theorem decode_wf_encode (w : OpWord) : (decode w).wf = true ∧ encode (decode w) = w := by
  cases w with
  | pin c | ctl c | core c =>
    revert c
    decide
  | rd a => exact decodeRead_wf_encode a
  | wr w =>
    have h := decodeWriteAt_wf_encode (w.extractLsb' 8 16) (w.extractLsb' 0 8)
    rwa [wrWord_fields] at h
  | row r => exact ⟨rfl, rfl⟩

/-- Settles O2. -/
theorem encodeOfDecode : Obligations.EncodeOfDecode := by
  unfold Obligations.EncodeOfDecode
  exact decode_wf_encode

/-! ### The opcode table -/

theorem rowOf_mem_opcodeTable (i : Instr) : rowOf i ∈ opcodeTable := by
  cases i <;> simp [opcodeTable, rowOf]

open Laws in
/-- The word of an operation lies in the operation's own row. -/
theorem rowOf_matchesWord_encode (i : Instr) : (rowOf i).matchesWord (encode i) = true := by
  cases i with
  | pinPulse => exact RowWord.pinPulse
  | pinZero => exact RowWord.pinZero
  | pinOne => exact RowWord.pinOne
  | pinIdle => exact RowWord.pinIdle
  | rdLy => exact RowWord.rdLy
  | rdStatus => exact RowWord.rdStatus
  | rdCtrl => exact RowWord.rdCtrl
  | rdPkt idx => exact RowWord.rdPkt idx
  | rdVram => exact RowWord.rdVram
  | rdOther addr => exact RowWord.rdOther addr
  | wrCtrl data => exact RowWord.wrCtrl data
  | wrJoy slot data => exact RowWord.wrJoy slot data
  | wrOther addr data => exact RowWord.wrOther addr data
  | rowsel row => exact RowWord.rowsel row
  | reset => exact RowWord.reset
  | power => exact RowWord.power
  | joypoll => exact RowWord.joypoll
  | run => exact RowWord.run

theorem TableRow.matchesWord_iff {r : TableRow} {w : OpWord} :
    r.matchesWord w = true ↔ r.fmt = w.fmt ∧ w.bits &&& r.mask = r.pat := by
  simp [TableRow.matchesWord]

/-- Two rows with a mask that share a word are one row: where both masks look, their patterns agree. -/
theorem eq_of_matchesWord {r r' : TableRow} {w : OpWord} (hr : r ∈ opcodeTable) (hr' : r' ∈ opcodeTable)
    (hmask : r.mask ≠ 0) (hmask' : r'.mask ≠ 0) (h : r.matchesWord w = true) (h' : r'.matchesWord w = true) :
    r = r' := by
  have table : ∀ r ∈ opcodeTable, ∀ r' ∈ opcodeTable, r.mask ≠ 0 → r'.mask ≠ 0 → r.fmt = r'.fmt →
      r.pat &&& r'.mask = r'.pat &&& r.mask → r = r' := by decide
  obtain ⟨hfmt, hpat⟩ := TableRow.matchesWord_iff.mp h
  obtain ⟨hfmt', hpat'⟩ := TableRow.matchesWord_iff.mp h'
  refine table r hr r' hr' hmask hmask' (hfmt.trans hfmt'.symm) ?_
  rw [← hpat, ← hpat', Nat.and_assoc, Nat.and_assoc, Nat.and_comm r.mask]

/-- The bits of a read word under a mask, as an address. -/
theorem rd_masked_iff {a m p : Addr} : a.toNat &&& m.toNat = p.toNat ↔ a &&& m = p := by
  rw [← BitVec.toNat_and, BitVec.toNat_inj]

/-- The bits of a write word under a mask of its address field, as an address. -/
theorem wr_masked_iff {a m p : Addr} (d : Byte) :
    (a ++ d).toNat &&& m.toNat * 2 ^ 8 = p.toNat * 2 ^ 8 ↔ a &&& m = p := by
  rw [BitVec.toNat_append, Laws.RowWord.append_arith _ _ _ d.isLt, Laws.RowWord.shifted_and_mask _ _ _ _ d.isLt,
    Nat.mul_left_inj (by decide), rd_masked_iff]

/-- The read registers are the addresses that a row with a mask matches (rule R66). -/
theorem readRegister_iff_row {a : Addr} :
    readRegister a = true ↔ ∃ r ∈ opcodeTable, r.mask ≠ 0 ∧ r.matchesWord (.rd a) = true := by
  have hword (p : Addr) : a.toNat &&& 0xFFFF = p.toNat ↔ a = p := by
    rw [← BitVec.toNat_inj]
    exact iff_of_eq (congrArg (· = p.toNat) (Nat.and_two_pow_sub_one_of_lt_two_pow a.isLt))
  have hwindow := rd_masked_iff (a := a) (m := 0xFFF0#16) (p := 0x7000#16)
  simp [readRegister, opcodeTable, rowOf, TableRow.matchesWord, OpWord.fmt, OpWord.bits, ← hword, ← hwindow, or_assoc]

/-- The write registers are the addresses that a row with a mask matches (rule R67). -/
theorem writeRegister_iff_row {a : Addr} (d : Byte) :
    writeRegister a = true ↔ ∃ r ∈ opcodeTable, r.mask ≠ 0 ∧ r.matchesWord (.wr (a ++ d)) = true := by
  have hctrl := wr_masked_iff (a := a) (m := BitVec.allOnes 16) (p := 0x6003#16) d
  have hjoy := wr_masked_iff (a := a) (m := 0xFFFC#16) (p := 0x6004#16) d
  rw [BitVec.and_allOnes] at hctrl
  simp [writeRegister, opcodeTable, rowOf, TableRow.matchesWord, OpWord.fmt, OpWord.bits, ← hctrl, ← hjoy]

/-- An operation in a row of mask 0 has a word that only rows of mask 0 match. -/
theorem mask_eq_zero_of_matchesWord_encode {i : Instr} {r : TableRow} (hwf : i.wf = true)
    (hzero : (rowOf i).mask = 0) (hr : r ∈ opcodeTable) (h : r.matchesWord (encode i) = true) : r.mask = 0 := by
  by_contra hmask
  cases i with
  | rdOther a =>
    have hreg := readRegister_iff_row.mpr ⟨r, hr, hmask, h⟩
    simp [Instr.wf, hreg] at hwf
  | wrOther a d =>
    have hreg := (writeRegister_iff_row d).mpr ⟨r, hr, hmask, h⟩
    simp [Instr.wf, hreg] at hwf
  | rowsel row =>
    have hfmt : r.fmt = .row := (TableRow.matchesWord_iff.mp h).1
    have table : ∀ r ∈ opcodeTable, r.fmt = .row → r.mask = 0 := by decide
    exact hmask (table r hr hfmt)
  | pinPulse | pinZero | pinOne | pinIdle | rdLy | rdStatus | rdCtrl | rdPkt | rdVram | wrCtrl | wrJoy | reset | power
  | joypoll | run => simp [rowOf] at hzero

/-- Settles O3: two rows with a mask that match one word are the same row, and a row of mask 0 is selected only where
no row with a mask matches. -/
theorem decodeFollowsOpcodeTable : Obligations.DecodeFollowsOpcodeTable := by
  unfold Obligations.DecodeFollowsOpcodeTable
  intro w
  obtain ⟨hwf, hword⟩ := decode_wf_encode w
  have hmatch : (rowOf (decode w)).matchesWord w = true := by
    simpa only [hword] using rowOf_matchesWord_encode (decode w)
  refine ⟨rowOf_mem_opcodeTable _, hmatch, fun r hr h => ?_⟩
  by_cases hmask : r.mask = 0
  · exact .inr hmask
  · refine .inl (eq_of_matchesWord hr (rowOf_mem_opcodeTable _) hmask (fun hzero => hmask ?_) h hmatch)
    exact mask_eq_zero_of_matchesWord_encode hwf hzero hr (by rwa [hword])

/-- Settles O4. -/
theorem wordsOfTheSpecDecode : Obligations.WordsOfTheSpecDecode := by
  unfold Obligations.WordsOfTheSpecDecode
  decide

/-! ### Numbers as words -/

theorem OpWord.ofNat_of_lt {fmt : Format} {w : Nat} (h : w < 2 ^ fmt.width) :
    ∃ op : OpWord, op.fmt = fmt ∧ op.bits = w ∧ OpWord.ofNat fmt w = .ok op := by
  cases fmt <;> exact ⟨_, by rfl, by exact (BitVec.toNat_ofNat ..).trans (Nat.mod_eq_of_lt h), if_pos h⟩

theorem OpWord.ofNat_of_le {fmt : Format} {w : Nat} (h : 2 ^ fmt.width ≤ w) :
    OpWord.ofNat fmt w = .error (.strayBits fmt) :=
  if_neg (Nat.not_lt.mpr h)

/-- Settles O5. -/
theorem strayBitsRejected : Obligations.StrayBitsRejected := by
  unfold Obligations.StrayBitsRejected
  intro fmt w
  refine ⟨fun hstray => ?_, fun hfits => ?_⟩
  · rw [decodeBits, OpWord.ofNat_of_le hstray, Except.map]
  · obtain ⟨op, hfmt, hbits, hword⟩ := OpWord.ofNat_of_lt hfits
    exact ⟨op, hfmt, hbits, by rw [decodeBits, hword, Except.map]⟩

end Sys2Proof
end

section
/-! Proofs about the step: what it runs (00_scope.md section 5), what completes (60_exceptions.md rule R180), and the
order of a run (20_memory.md rule R54). -/

namespace Sys2Proof.Machine

/-- A step with an operation pending executes it (00_scope.md rule R6). -/
theorem step_cons {s : State} {p : Presentation} {rest : List Presentation} (h : s.pending = p :: rest) :
    step s = exec (decode p.op) { s with pending := rest, inputs := p.inputs } := by
  simp only [step, State.takeNext, h]

theorem step_nil {s : State} (h : s.pending = []) : step s = .next s := by
  simp only [step, State.takeNext, h]

/-- Settles O6. -/
theorem stepRunsPresentedOperation : Obligations.StepRunsPresentedOperation := by
  unfold Obligations.StepRunsPresentedOperation
  exact fun _ _ _ => step_cons

/-- Settles O7: the word of the operation decodes to it. -/
theorem stepRunsEncodedOperation : Obligations.StepRunsEncodedOperation := by
  unfold Obligations.StepRunsEncodedOperation
  intro s i inp rest hwf
  rw [step_cons rfl, decode_encode hwf]

/-- Settles O8. -/
theorem nothingPresentedNothingMoves : Obligations.NothingPresentedNothingMoves := by
  unfold Obligations.NothingPresentedNothingMoves
  exact fun _ => step_nil

/-! ### What completes -/

/-- Every operation but a row select answers a next state. -/
theorem exec_completes {i : Instr} (hrow : ∀ row, i ≠ .rowsel row) (s : State) : ∃ t, exec i s = .next t := by
  cases i with
  | rowsel row => exact absurd rfl (hrow row)
  | _ => exact ⟨_, rfl⟩

/-- Settles O10. -/
theorem operationsInRangeComplete : Obligations.OperationsInRangeComplete := by
  unfold Obligations.OperationsInRangeComplete
  intro i s hrange
  by_cases hrow : ∃ row, i = .rowsel row
  · obtain ⟨row, rfl⟩ := hrow
    exact ⟨_, exec_rowsel_of_lt (hrange row rfl) s⟩
  · exact exec_completes (not_exists.mp hrow) s

theorem exec_rowsel_of_le {row : BitVec 5} (h : 20 ≤ row.toNat) (s : State) :
    exec (.rowsel row) s = .refused (.rowOutOfRange row) :=
  if_pos h

/-- Settles O11. -/
theorem rowTwentyAndAboveRefused : Obligations.RowTwentyAndAboveRefused := by
  unfold Obligations.RowTwentyAndAboveRefused
  exact fun _ s h => exec_rowsel_of_le h s

/-! ### The control register and the pending operations are no part of what a presentation reads -/

/-- Another control byte and other operations pending, `f` and `g` of those of `s`. -/
def State.withControl (f : Byte → Byte) (g : List Presentation → List Presentation) (s : State) : State :=
  { s with ctrl := f s.ctrl, pending := g s.pending }

section WithControl

variable (f : Byte → Byte) (g : List Presentation → List Presentation) (s : State)

theorem State.byteCommit_withControl :
    (s.withControl f g).byteCommit = s.byteCommit.withControl f g := by
  rw [State.byteCommit, State.byteCommit, apply_ite (State.withControl f g)]
  rfl

theorem State.consumeBit_withControl (b : Bool) :
    (s.withControl f g).consumeBit b = (s.consumeBit b).withControl f g := by
  rw [State.consumeBit, State.consumeBit, apply_ite (State.withControl f g), ← State.byteCommit_withControl]
  rfl

theorem State.decoderPart_withControl (p15 p14 : Bool) :
    (s.withControl f g).decoderPart p15 p14 = (s.decoderPart p15 p14).withControl f g := by
  simp only [State.decoderPart, apply_ite (State.withControl f g), State.consumeBit_withControl]
  rfl

theorem State.presentPins_withControl (p15 p14 : Bool) :
    (s.withControl f g).presentPins p15 p14 = (s.presentPins p15 p14).withControl f g :=
  State.decoderPart_withControl f g ((s.emit Output.silent).muxPart p15 p14) p15 p14

theorem State.popAndLatch_withControl :
    (s.withControl f g).popAndLatch = (s.popAndLatch.1, s.popAndLatch.2.withControl f g) := by
  cases hq : s.queue with
  | nil => rw [State.popAndLatch_empty s hq, State.popAndLatch_empty (s.withControl f g) hq]
  | cons p rest =>
    rw [State.popAndLatch_front s hq, State.popAndLatch_front (s.withControl f g) hq]
    rfl

/-- `f` of the next state, where there is one. -/
def mapNext (f : State → State) : Host.Outcome State Fault Refusal → Host.Outcome State Fault Refusal
  | .next t => .next (f t)
  | .fault r => .fault r
  | .refused r => .refused r

/-- Apart from the control accesses and the resets, an operation does the same whatever the control register holds and
whatever is pending. -/
theorem exec_withControl {i : Instr} (hread : i ≠ .rdCtrl) (hwrite : ∀ data, i ≠ .wrCtrl data) (hreset : i ≠ .reset)
    (hpower : i ≠ .power) :
    exec i (s.withControl f g) = mapNext (State.withControl f g) (exec i s) := by
  cases i with
  | pinPulse | pinZero | pinOne | pinIdle => exact congrArg _ (s.presentPins_withControl f g _ _)
  | rdLy | rdPkt | rdVram | rdOther | wrJoy | wrOther | joypoll | run => rfl
  | rdStatus =>
    simp only [exec, execRdStatus, s.popAndLatch_withControl f g]
    rfl
  | rowsel row =>
    simp only [exec, execRowsel, apply_ite (mapNext (State.withControl f g))]
    rfl
  | rdCtrl => exact absurd rfl hread
  | wrCtrl data => exact absurd rfl (hwrite data)
  | reset => exact absurd rfl hreset
  | power => exact absurd rfl hpower

end WithControl

/-- The enable transition from any state: the reset values, and a queue of the six boot packets (rule R163). -/
theorem State.enableTransition_eq (s : State) :
    s.enableTransition = { s.internalReset with
      queue := (List.finRange 6).map (bootPacket s.inputs.hdr), out := { Output.silent with coreReset := true } } :=
  State.bootInject_eq _ rfl

theorem execWrCtrl_of_enableRises {data : Byte} {s : State} (h : enableRises s.ctrl data = true) :
    execWrCtrl data s = .next { s.internalReset with
      queue := (List.finRange 6).map (bootPacket s.inputs.hdr), out := { Output.silent with coreReset := true }
      ctrl := data, mltMode := normMode (ctrlMode data) } := by
  simp [execWrCtrl, h, State.enableTransition_eq, State.setMode]

/-- What is pending changes nothing of what an operation does. -/
theorem exec_withPending (i : Instr) (s : State) (pending : List Presentation) :
    exec i { s with pending := pending } = mapNext (fun t => { t with pending := pending }) (exec i s) := by
  cases i with
  | rdCtrl | reset | power => rfl
  | wrCtrl data =>
    cases hrise : enableRises s.ctrl data with
    | false =>
      simp only [exec, execWrCtrl_of_not_enableRises hrise]
      exact execWrCtrl_of_not_enableRises hrise
    | true =>
      simp only [exec, execWrCtrl_of_enableRises hrise]
      exact execWrCtrl_of_enableRises (s := { s with pending := pending }) hrise
  | _ => exact exec_withControl id (fun _ => pending) s (by simp) (by simp) (by simp) (by simp)

theorem exec_keeps_pending {i : Instr} {s t : State} (h : exec i s = .next t) : t.pending = s.pending := by
  have hsame : exec i s = mapNext _ (exec i s) := exec_withPending i s s.pending
  rw [h] at hsame
  have ht : t = { t with pending := s.pending } := Host.Outcome.next.inj hsame
  rw [ht]

/-- Settles O9, by induction on the operations presented. -/
theorem runExecutesInPresentedOrder : Obligations.RunExecutesInPresentedOrder := by
  unfold Obligations.RunExecutesInPresentedOrder
  intro ps rest s hpending
  induction ps generalizing s with
  | nil => exact congrArg _ (by rw [← List.nil_append rest, ← hpending])
  | cons p ps ih =>
    have hexec := exec_withPending (decode p.op) { s with pending := rest, inputs := p.inputs } (ps ++ rest)
    have hstep : Sys2Proof.core.step s = mapNext _ _ := (step_cons hpending).trans hexec
    simp only [List.length_cons, List.map_cons, Host.Core.run, runOps, Presentation.timed, hstep]
    cases hnext : exec (decode p.op) { s with pending := rest, inputs := p.inputs } with
    | next t =>
      obtain rfl : t.pending = rest := exec_keeps_pending hnext
      exact ih { t with pending := ps ++ t.pending } rfl
    | fault r => rfl
    | refused r => rfl

/-- Settles O46: what differs is the control byte alone, which `exec_withControl` lets differ. -/
theorem enableGatesNothing : Obligations.EnableGatesNothing := by
  unfold Obligations.EnableGatesNothing
  intro i s t c hread hwrite hreset hpower h
  have hctrl := exec_withControl (fun _ => c) id s hread hwrite hreset hpower
  rwa [h] at hctrl

end Sys2Proof.Machine
end

section
/-! Proofs about the invariants of the state (10_state.md rule R29). -/

namespace Sys2Proof.Machine

/-- Settles O59. -/
theorem resetMeetsInvariant : Obligations.ResetMeetsInvariant := by
  unfold Obligations.ResetMeetsInvariant
  decide

/-! ### The assembled packet (clause (f)) -/

/-- Packet complete is the one way to an assembled packet, and it leaves both offsets 0 (rule R96, rule R97). -/
theorem State.byteCommit_assembledClean {s : State} (hpulse : s.pulseLock = false) (hpacket : s.packetLock = false) :
    s.byteCommit.AssembledClean := by
  unfold State.byteCommit
  split
  next => intro hlock; exact absurd hlock (by simp [hpacket])
  next => exact fun _ => ⟨hpulse, rfl, rfl⟩

theorem State.consumeBit_assembledClean {s : State} (hpulse : s.pulseLock = false) (hpacket : s.packetLock = false)
    (b : Bool) : (s.consumeBit b).AssembledClean := by
  unfold State.consumeBit
  split
  next => intro hlock; exact absurd hlock (by simp [hpacket])
  next => exact State.byteCommit_assembledClean hpulse hpacket

theorem State.decoderPart_assembledClean {s : State} (h : s.AssembledClean) (p15 p14 : Bool) :
    (s.decoderPart p15 p14).AssembledClean := by
  unfold State.decoderPart
  split_ifs with hlow hpulse hhigh hstrobe hpacket hcommit
  · rw [State.pulse_eq]; simp [State.AssembledClean]
  · exact h
  · exact h
  · rw [State.violation_eq]; simp [State.AssembledClean]
  · rw [State.commit_eq]; simp [State.AssembledClean]
  · exact h
  · exact State.consumeBit_assembledClean (by simpa using hpulse) (by simpa using hpacket) _

/-! ### The invariants together -/

theorem State.presentPins_inv {s : State} (h : s.Inv) (p15 p14 : Bool) : (s.presentPins p15 p14).Inv := by
  obtain ⟨hqueue, hmode, hselection, hclean, hrow⟩ := h
  refine ⟨State.decoderPart_queue_le _ p15 p14 hqueue, ?mode, ?selection,
    State.decoderPart_assembledClean (s := (s.emit Output.silent).muxPart p15 p14) hclean p15 p14, ?row⟩
  case mode => simpa [State.ModeLegal] using hmode
  case selection =>
    simp only [State.SelectionInRange, State.presentPins_joyId, State.presentPins_mltMode]
    split
    · exact nextSlot_lt s.joyId s.mltMode
    · exact hselection
  case row => simpa [State.RowLegal] using hrow

theorem State.popAndLatch_inv {s : State} (h : s.Inv) : s.popAndLatch.2.Inv := by
  obtain ⟨hqueue, hrest⟩ := h
  cases hq : s.queue with
  | nil => rw [State.popAndLatch_empty s hq]; exact ⟨hqueue, hrest⟩
  | cons p rest =>
    rw [State.popAndLatch_front s hq]
    rw [State.QueueBounded, hq] at hqueue
    exact ⟨Nat.le_of_succ_le hqueue, hrest⟩

/-- After the internal reset the elements have their reset values. -/
theorem State.internalReset_inv (s : State) : s.internalReset.Inv := resetMeetsInvariant

/-- A control write leaves a legal mode that follows the byte written, and a selection below its slot count
(42_joypad_mux.md rule R128). -/
theorem execWrCtrl_keeps_inv {data : Byte} {s t : State} (h : s.Inv) (ht : execWrCtrl data s = .next t) : t.Inv := by
  have hlegal := normMode_ne_reserved (ctrlMode data)
  cases hrise : enableRises s.ctrl data with
  | false =>
    obtain ⟨hqueue, -, -, hclean, hrow⟩ := h
    cases (execWrCtrl_of_not_enableRises hrise).symm.trans ht
    exact ⟨hqueue, ⟨hlegal, rfl⟩, remask_lt s.joyId _ hlegal, hclean, hrow⟩
  | true =>
    obtain ⟨-, -, -, hclean, hrow⟩ := s.internalReset_inv
    cases (execWrCtrl_of_enableRises hrise).symm.trans ht
    exact ⟨by simp [State.QueueBounded, queueCapacity], ⟨hlegal, rfl⟩, Nat.succ_pos _, hclean, hrow⟩

theorem exec_keeps_inv {i : Instr} {s t : State} (h : s.Inv) (ht : exec i s = .next t) : t.Inv := by
  cases i with
  | pinPulse | pinZero | pinOne | pinIdle =>
    cases ht
    exact State.presentPins_inv h _ _
  | rdLy | rdCtrl | rdPkt | rdVram | rdOther | wrJoy | wrOther | joypoll | run =>
    cases ht
    exact h
  | rdStatus =>
    cases ht
    exact State.popAndLatch_inv h
  | wrCtrl data => exact execWrCtrl_keeps_inv h ht
  | rowsel row =>
    obtain ⟨hqueue, hmode, hselection, hclean, -⟩ := h
    rw [exec, execRowsel] at ht
    split at ht
    next => cases ht
    next haccepted =>
      cases ht
      exact ⟨hqueue, hmode, hselection, hclean, Nat.lt_of_not_le haccepted⟩
  | reset | power =>
    cases ht
    exact s.internalReset_inv

/-- Settles O60: the operation presented is executed in a state that differs from `s` in the model's own fields only. -/
theorem stepKeepsInvariant : Obligations.StepKeepsInvariant := by
  unfold Obligations.StepKeepsInvariant
  intro s t h ht
  cases hpending : s.pending with
  | nil =>
    cases (step_nil hpending).symm.trans ht
    exact h
  | cons p rest =>
    rw [step_cons hpending] at ht
    exact exec_keeps_inv (s := { s with pending := rest, inputs := p.inputs }) h ht

end Sys2Proof.Machine
end

section
/-! Proofs about the decoder: the whole next state of each presentation (40_serial_decoder.md section 2, section 3), the
transition table (rule R102), and the noise an Idle-locked decoder ignores (rule R92). -/

namespace Sys2Proof.Machine

/-! ### The mux part as one record update (42_joypad_mux.md rule R126, rule R127) -/

/-- What the decoder part of a presentation other than both-high starts from. -/
def State.afterMux (p15 p14 : Bool) (s : State) : State :=
  { s with joyLock := if (p15, p14) = releasePattern then false else s.joyLock, out := Output.silent }

theorem State.muxPart_notBothHigh {p15 p14 : Bool} (h : (p15 && p14) = false) (s : State) :
    (s.emit Output.silent).muxPart p15 p14 = s.afterMux p15 p14 := by
  rw [State.muxPart, State.joyLockAfter_notBothHigh _ h, State.advances_notBothHigh _ h]
  rfl

/-- What the decoder part of both-high starts from. -/
theorem State.muxPart_bothHigh (s : State) :
    (s.emit Output.silent).muxPart true true = { s with
      joyLock := true, joyId := if s.joyLock then s.joyId else nextSlot s.joyId s.mltMode
      out := Output.silent } := by
  rw [State.muxPart, State.joyLockAfter_bothHigh, State.advances_bothHigh]
  cases hjoy : s.joyLock <;> simp [State.emit, hjoy]

/-! ### `PIN.PULSE` and `PIN.IDLE` in every state -/

/-- Settles O12. -/
theorem pulseAlwaysWins : Obligations.PulseAlwaysWins := by
  unfold Obligations.PulseAlwaysWins
  intro s
  have hexec : exec .pinPulse s = .next (s.presentPins false false) := rfl
  rw [hexec, State.presentPins, State.muxPart_notBothHigh rfl, State.decoderPart_pulse, State.pulse_eq]
  rfl

/-- Both-high readies a decoder that is not Idle-locked, and changes nothing of one that is (rule R92, rule R93). -/
theorem State.decoderPart_bothHigh_eq (s : State) :
    s.decoderPart true true = { s with strobeLock := if s.pulseLock then s.strobeLock else false } := by
  cases hpulse : s.pulseLock with
  | false =>
    rw [State.decoderPart_bothHigh s hpulse]
    simp [State.clearStrobe, hpulse]
  | true =>
    rw [State.decoderPart_locked s rfl hpulse]
    simp [← hpulse]

/-- Settles O13. -/
theorem bothHighArmsAndAdvances : Obligations.BothHighArmsAndAdvances := by
  unfold Obligations.BothHighArmsAndAdvances
  intro s
  have hexec : exec .pinIdle s = .next (s.presentPins true true) := rfl
  rw [hexec, State.presentPins, State.muxPart_bothHigh, State.decoderPart_bothHigh_eq]
  rfl

/-! ### The data edges, by the test of rule R105 that applies, for either bit -/

/-- The mux part, then the decoder part from what it leaves. -/
theorem exec_dataEdge (b : Bool) (s : State) :
    exec (dataEdge b) s = .next ((s.afterMux (!b) b).decoderPart (!b) b) := by
  rw [dataEdge_eq_pinOp, exec_pinOp, State.presentPins, State.muxPart_notBothHigh (Bool.not_and_self b)]

/-- Shifting a bit in at bit 0 drops bit 7 (rule R95). -/
theorem shiftConcat_eq_append (v : Byte) (b : Bool) : v.shiftConcat b = v.extractLsb' 0 7 ++ BitVec.ofBool b := by
  apply BitVec.eq_of_getLsbD_eq
  intro j hj
  rw [BitVec.getLsbD_append (x := v.extractLsb' 0 7) (y := BitVec.ofBool b), BitVec.getLsbD_shiftConcat]
  cases j with
  | zero => simp
  | succ j =>
    have hlow : j < 7 := by omega
    simp [hlow, hj]

section DataEdge

variable (b : Bool) {s : State}

theorem exec_dataEdge_locked (hpulse : s.pulseLock = true) :
    exec (dataEdge b) s = .next { s with
      joyLock := if (!b, b) = releasePattern then false else s.joyLock, out := Output.silent } := by
  rw [exec_dataEdge, State.decoderPart_locked (s.afterMux (!b) b) (Bool.not_or_self b) hpulse]
  rfl

theorem exec_dataEdge_violation (hpulse : s.pulseLock = false) (hstrobe : s.strobeLock = true) :
    exec (dataEdge b) s = .next { s with
      packetLock := false, pulseLock := true, bitOffset := 0, byteOffset := 0
      joyLock := if (!b, b) = releasePattern then false else s.joyLock, out := Output.silent } := by
  rw [exec_dataEdge, State.decoderPart_violation (s.afterMux (!b) b) (Bool.not_ne_self b) hpulse hstrobe,
    State.violation_eq]
  rfl

theorem exec_dataEdge_within_byte (hpulse : s.pulseLock = false) (hstrobe : s.strobeLock = false)
    (hpacket : s.packetLock = false) (hbit : s.bitOffset.val < 7) :
    exec (dataEdge b) s = .next { s with
      byteAcc := s.byteAcc.extractLsb' 0 7 ++ BitVec.ofBool b, strobeLock := true, bitOffset := s.bitOffset + 1
      joyLock := if (!b, b) = releasePattern then false else s.joyLock, out := Output.silent } := by
  rw [exec_dataEdge, State.decoderPart_consume (s.afterMux (!b) b) (Bool.not_ne_self b) hpulse hstrobe hpacket,
    State.consumeBit_within_byte (s.afterMux (!b) b) b hbit, shiftConcat_eq_append]
  rfl

theorem exec_dataEdge_ends_byte (hpulse : s.pulseLock = false) (hstrobe : s.strobeLock = false)
    (hpacket : s.packetLock = false) (hbit : s.bitOffset = 7) (hbyte : s.byteOffset.val < 15) :
    exec (dataEdge b) s = .next { s with
      byteAcc := s.byteAcc.extractLsb' 0 7 ++ BitVec.ofBool b, strobeLock := true, bitOffset := 0
      pktAcc := s.pktAcc.set s.byteOffset.val (s.byteAcc.extractLsb' 0 7 ++ BitVec.ofBool b)
      byteOffset := s.byteOffset + 1
      joyLock := if (!b, b) = releasePattern then false else s.joyLock, out := Output.silent } := by
  rw [exec_dataEdge, State.decoderPart_consume (s.afterMux (!b) b) (Bool.not_ne_self b) hpulse hstrobe hpacket,
    State.consumeBit_ends_byte (s.afterMux (!b) b) b hbit hbyte, shiftConcat_eq_append]
  rfl

theorem exec_dataEdge_ends_packet (hpulse : s.pulseLock = false) (hstrobe : s.strobeLock = false)
    (hpacket : s.packetLock = false) (hbit : s.bitOffset = 7) (hbyte : s.byteOffset = 15) :
    exec (dataEdge b) s = .next { s with
      byteAcc := s.byteAcc.extractLsb' 0 7 ++ BitVec.ofBool b, strobeLock := true, bitOffset := 0
      pktAcc := s.pktAcc.set 15 (s.byteAcc.extractLsb' 0 7 ++ BitVec.ofBool b)
      byteOffset := 0, packetLock := true
      joyLock := if (!b, b) = releasePattern then false else s.joyLock, out := Output.silent } := by
  rw [exec_dataEdge, State.decoderPart_consume (s.afterMux (!b) b) (Bool.not_ne_self b) hpulse hstrobe hpacket,
    State.consumeBit_ends_packet (s.afterMux (!b) b) b hbit hbyte, shiftConcat_eq_append]
  rfl

end DataEdge

/-- Settles O14. -/
theorem idleLockedIgnoresDataEdges : Obligations.IdleLockedIgnoresDataEdges := by
  unfold Obligations.IdleLockedIgnoresDataEdges
  exact fun _ hpulse => ⟨exec_dataEdge_locked false hpulse, exec_dataEdge_locked true hpulse⟩

/-- Settles O15. -/
theorem unframedEdgeIsViolation : Obligations.UnframedEdgeIsViolation := by
  unfold Obligations.UnframedEdgeIsViolation
  exact fun _ hpulse hstrobe =>
    ⟨exec_dataEdge_violation false hpulse hstrobe, exec_dataEdge_violation true hpulse hstrobe⟩

/-- Settles O16. -/
theorem bitConsumedWithinByte : Obligations.BitConsumedWithinByte := by
  unfold Obligations.BitConsumedWithinByte
  exact fun _ hpulse hstrobe hpacket hbit =>
    ⟨exec_dataEdge_within_byte false hpulse hstrobe hpacket hbit,
      exec_dataEdge_within_byte true hpulse hstrobe hpacket hbit⟩

/-- Settles O17. -/
theorem eighthBitCommitsByte : Obligations.EighthBitCommitsByte := by
  unfold Obligations.EighthBitCommitsByte
  exact fun _ hpulse hstrobe hpacket hbit hbyte =>
    ⟨exec_dataEdge_ends_byte false hpulse hstrobe hpacket hbit hbyte,
      exec_dataEdge_ends_byte true hpulse hstrobe hpacket hbit hbyte⟩

/-- Settles O18. -/
theorem lastBitCompletesPacket : Obligations.LastBitCompletesPacket := by
  unfold Obligations.LastBitCompletesPacket
  exact fun _ hpulse hstrobe hpacket hbit hbyte =>
    ⟨exec_dataEdge_ends_packet false hpulse hstrobe hpacket hbit hbyte,
      exec_dataEdge_ends_packet true hpulse hstrobe hpacket hbit hbyte⟩

/-- Settles O19: the commit edge by `State.commit`, the other data edge by the last test, which answers the state. -/
theorem framedZeroCommitsFramedOneIsIgnored : Obligations.FramedZeroCommitsFramedOneIsIgnored := by
  unfold Obligations.FramedZeroCommitsFramedOneIsIgnored
  refine fun s hpulse hstrobe hpacket => ⟨(exec_dataEdge false s).trans ?_, (exec_dataEdge true s).trans ?_⟩
  · exact congrArg _ (State.decoderPart_commit _ hpulse hstrobe hpacket)
  · exact congrArg _ (State.decoderPart_ignored _ hpulse hstrobe hpacket)

/-! ### The transition table (rule R102) -/

/-- The flags after a consumed bit: the packet is assembled exactly if it was the 128th (rule R95, rule R97). -/
theorem State.consumeBit_flags {s : State} (hpacket : s.packetLock = false) (b : Bool) :
    (s.consumeBit b).pulseLock = s.pulseLock ∧ (s.consumeBit b).strobeLock = true ∧
      (s.consumeBit b).packetLock = decide (s.bitOffset = 7 ∧ s.byteOffset = 15) := by
  by_cases hbit : s.bitOffset = 7
  · by_cases hbyte : s.byteOffset = 15
    · rw [s.consumeBit_ends_packet b hbit hbyte]
      exact ⟨rfl, rfl, (decide_eq_true ⟨hbit, hbyte⟩).symm⟩
    · rw [s.consumeBit_ends_byte b hbit (by omega)]
      exact ⟨rfl, rfl, by simp [hpacket, hbyte]⟩
  · rw [s.consumeBit_within_byte b (by omega)]
    exact ⟨rfl, rfl, by simp [hpacket, hbit]⟩

/-- The flags that a named state stands for (rule R90). -/
def Phase.Holds (s : State) : Phase → Prop
  | .locked => s.pulseLock = true ∧ s.packetLock = false
  | .armed => s.pulseLock = false ∧ s.strobeLock = true ∧ s.packetLock = false
  | .ready => s.pulseLock = false ∧ s.strobeLock = false ∧ s.packetLock = false
  | .fullArmed => s.pulseLock = false ∧ s.strobeLock = true ∧ s.packetLock = true
  | .fullReady => s.pulseLock = false ∧ s.strobeLock = false ∧ s.packetLock = true

theorem State.phase_eq_some_iff {s : State} {ph : Phase} : s.phase = some ph ↔ ph.Holds s := by
  unfold State.phase
  split <;> cases ph <;> simp_all [Phase.Holds]

/-- The rows of the table for the two data edges; `last` says that the bit is the 128th. -/
theorem Phase.Holds.dataEdge {s : State} {ph : Phase} (h : ph.Holds s) (b : Bool) {last : Bool}
    (hlast : last = decide (s.bitOffset = 7 ∧ s.byteOffset = 15)) :
    (ph.after (!b) b last).Holds (s.decoderPart (!b) b) := by
  cases ph with
  | locked =>
    rw [State.decoderPart_locked s (Bool.not_or_self b) h.1]
    cases b <;> exact h
  | armed | fullArmed =>
    obtain ⟨hpulse, hstrobe, -⟩ := h
    rw [State.decoderPart_violation s (Bool.not_ne_self b) hpulse hstrobe]
    cases b <;> exact ⟨rfl, rfl⟩
  | ready =>
    obtain ⟨hpulse, hstrobe, hpacket⟩ := h
    obtain ⟨hpulse', hstrobe', hpacket'⟩ := s.consumeBit_flags hpacket b
    rw [State.decoderPart_consume s (Bool.not_ne_self b) hpulse hstrobe hpacket]
    rw [← hlast] at hpacket'
    cases b <;> cases last <;> exact ⟨hpulse'.trans hpulse, hstrobe', hpacket'⟩
  | fullReady =>
    obtain ⟨hpulse, hstrobe, hpacket⟩ := h
    cases b with
    | false =>
      rw [Bool.not_false, State.decoderPart_commit s hpulse hstrobe hpacket]
      exact ⟨rfl, rfl⟩
    | true =>
      rw [Bool.not_true, State.decoderPart_ignored s hpulse hstrobe hpacket]
      exact ⟨hpulse, hstrobe, hpacket⟩

/-- The rows of the table for both-high. -/
theorem Phase.Holds.bothHigh {s : State} {ph : Phase} (h : ph.Holds s) (last : Bool) :
    (ph.after true true last).Holds (s.decoderPart true true) := by
  cases ph with
  | locked =>
    rw [State.decoderPart_locked s rfl h.1]
    exact h
  | armed | ready | fullArmed | fullReady =>
    obtain ⟨hpulse, -, hpacket⟩ := h
    rw [State.decoderPart_bothHigh s hpulse]
    exact ⟨hpulse, rfl, hpacket⟩

/-- Settles O20: the mux part keeps the flags, and the decoder part follows the table. -/
theorem transitionTable : Obligations.TransitionTable := by
  unfold Obligations.TransitionTable
  intro s ph p15 p14 h
  refine ⟨_, exec_pinOp p15 p14 s, State.phase_eq_some_iff.mpr ?_⟩
  have hmux : ph.Holds ((s.emit Output.silent).muxPart p15 p14) := State.phase_eq_some_iff.mp h
  cases p15 <;> cases p14
  · rw [State.presentPins, State.decoderPart_pulse]
    cases ph <;> exact ⟨rfl, rfl, rfl⟩
  · exact hmux.dataEdge true rfl
  · exact hmux.dataEdge false rfl
  · exact hmux.bothHigh _

/-! ### Noise while Idle-locked (rule R92, rule R109) -/

theorem State.SameDecoder.trans {s t u : State} (h : s.SameDecoder t) (h' : t.SameDecoder u) : s.SameDecoder u := by
  simp_all [State.SameDecoder]

/-- While Idle-locked a presentation other than Pulse runs the mux part alone. -/
theorem State.presentPins_locked {p15 p14 : Bool} {s : State} (h : (p15 || p14) = true) (hlock : s.pulseLock = true) :
    s.presentPins p15 p14 = (s.emit Output.silent).muxPart p15 p14 :=
  State.decoderPart_locked _ h hlock

theorem exec_pin_locked {i : Instr} {s : State} (hpin : isPin i = true) (hpulse : i ≠ .pinPulse)
    (hlock : s.pulseLock = true) : ∃ t, exec i s = .next t ∧ s.SameDecoder t ∧ t.queue = s.queue := by
  obtain ⟨p15, p14, rfl⟩ := isPin_iff.mp hpin
  have hhigh : (p15 || p14) = true := by
    revert hpulse
    cases p15 <;> cases p14 <;> decide
  refine ⟨_, exec_pinOp p15 p14 s, ?_⟩
  rw [State.presentPins_locked hhigh hlock]
  exact ⟨.refl s, rfl⟩

theorem runOps_noise {ops : List Timed} {s : State} (hlock : s.pulseLock = true)
    (hnoise : ∀ o ∈ ops, isPin o.1 = true ∧ o.1 ≠ .pinPulse) :
    ∃ t, runOps ops s = .next t ∧ s.SameDecoder t ∧ t.queue = s.queue := by
  induction ops generalizing s with
  | nil => exact ⟨s, rfl, .refl s, rfl⟩
  | cons o rest ih =>
    obtain ⟨⟨hpin, hpulse⟩, hrest⟩ := List.forall_mem_cons.mp hnoise
    obtain ⟨t, hexec, ht, hqueue⟩ := exec_pin_locked (s := { s with inputs := o.2 }) hpin hpulse hlock
    obtain ⟨u, hrun, hu, hqueue'⟩ := ih (ht.1.trans hlock) hrest
    exact ⟨u, (runOps_cons_of_next hexec).trans hrun, .trans (s := s) ht hu, hqueue'.trans hqueue⟩

/-- Settles O22, by induction on the presentations. -/
theorem onlyPulseLeavesIdleLock : Obligations.OnlyPulseLeavesIdleLock := by
  unfold Obligations.OnlyPulseLeavesIdleLock
  exact fun _ _ hlock hnoise => runOps_noise hlock hnoise

end Sys2Proof.Machine
end

section
/-! Proofs about the packet queue: the status read (41_packet_fifo.md rule R112, rule R116) and what lengthens the queue
(rule R110). -/

namespace Sys2Proof.Machine

/-! ### The status read -/

/-- Settles O27. -/
theorem statusReadPopsAndLatches : Obligations.StatusReadPopsAndLatches := by
  unfold Obligations.StatusReadPopsAndLatches
  refine ⟨fun s p rest hqueue => ?_, fun s hqueue => ?_⟩
  · rw [exec, execRdStatus, State.popAndLatch_front s hqueue]
    rfl
  · rw [exec, execRdStatus, State.popAndLatch_empty s hqueue]
    rfl

/-- One operation, at any inputs. -/
theorem RunsTo.single {i : Instr} {s : State} {P : State → Prop}
    (h : ∀ inp, ∃ t, exec i { s with inputs := inp } = .next t ∧ P t) : RunsTo [i] s P := by
  intro ops hops
  obtain ⟨⟨i, inp⟩, rfl, rfl⟩ := List.map_eq_singleton_iff.mp hops
  obtain ⟨t, hexec, ht⟩ := h inp
  exact ⟨t, runOps_cons_of_next hexec, ht⟩

theorem State.runsTo_rdStatus {s : State} {p : Packet} {rest : List Packet} (h : s.queue = p :: rest) :
    RunsTo [.rdStatus] s fun t => t.out.data = some 0x01#8 ∧ t.pktWindow = p ∧ t.queue = rest :=
  .single fun _ => ⟨_, statusReadPopsAndLatches.1 _ p rest h, rfl, rfl, rfl⟩

theorem State.runsTo_rdStatus_replicate {n : Nat} {p : Packet} {s : State} (h : s.queue[n]? = some p) :
    RunsTo (List.replicate (n + 1) .rdStatus) s fun t =>
      t.out.data = some 0x01#8 ∧ t.pktWindow = p ∧ t.queue = s.queue.drop (n + 1) := by
  induction n generalizing s with
  | zero =>
    cases hqueue : s.queue with
    | nil => simp [hqueue] at h
    | cons front rest =>
      obtain rfl : front = p := by simpa [hqueue] using h
      exact State.runsTo_rdStatus hqueue
  | succ n ih =>
    cases hqueue : s.queue with
    | nil => simp [hqueue] at h
    | cons front rest =>
      rw [hqueue, List.getElem?_cons_succ] at h
      rw [List.replicate_succ, ← List.singleton_append]
      refine (State.runsTo_rdStatus hqueue).append fun t ⟨_, _, ht⟩ => ?_
      rw [← ht] at h
      simpa only [ht, List.drop_succ_cons] using ih h

/-- Settles O29, by induction on the number of the read. -/
theorem statusReadsEmptyQueueInOrder : Obligations.StatusReadsEmptyQueueInOrder := by
  unfold Obligations.StatusReadsEmptyQueueInOrder
  exact fun _ _ ops _ h hops => State.runsTo_rdStatus_replicate h ops hops

/-! ### What lengthens the queue -/

theorem State.popAndLatch_queue (s : State) : s.popAndLatch.2.queue = s.queue.drop 1 := by
  cases hq : s.queue with
  | nil => rw [State.popAndLatch_empty s hq, hq]; rfl
  | cons p rest => rw [State.popAndLatch_front s hq]; rfl

/-- An operation other than a presentation or a reset at most pops from the queue. -/
theorem exec_queue_eq_drop {i : Instr} {s t : State} (hpin : isPin i = false) (hreset : isReset i s = false)
    (h : exec i s = .next t) : ∃ k, t.queue = s.queue.drop k := by
  cases i with
  | pinPulse | pinZero | pinOne | pinIdle => simp [isPin] at hpin
  | reset | power => simp [isReset] at hreset
  | rdLy | rdCtrl | rdPkt | rdVram | rdOther | wrJoy | wrOther | joypoll | run =>
    cases h
    exact ⟨0, rfl⟩
  | rdStatus =>
    cases h
    exact ⟨1, s.popAndLatch_queue⟩
  | wrCtrl data =>
    cases (execWrCtrl_of_not_enableRises hreset).symm.trans h
    exact ⟨0, rfl⟩
  | rowsel row =>
    cases eq_of_execRowsel_next h
    exact ⟨0, rfl⟩

/-- A reset leaves an empty queue, the enable transition one of six packets (70_reset_and_hazards.md rule R200). -/
theorem exec_reset_queue {i : Instr} {s t : State} (hreset : isReset i s = true) (h : exec i s = .next t) :
    t.queue = [] ∨ t.queue.length = 6 ∧ ∃ data, i = .wrCtrl data ∧ enableRises s.ctrl data = true := by
  cases i with
  | reset | power =>
    cases h
    exact .inl rfl
  | wrCtrl data =>
    cases (execWrCtrl_of_enableRises hreset).symm.trans h
    exact .inr ⟨by simp, data, rfl, hreset⟩
  | pinPulse | pinZero | pinOne | pinIdle | rdLy | rdStatus | rdCtrl | rdPkt | rdVram | rdOther | wrJoy | wrOther
  | rowsel | joypoll | run => simp [isReset] at hreset

/-- Settles O32: a presentation, an operation that at most pops, or a reset. -/
theorem queueGrowsByCommitAndBootOnly : Obligations.QueueGrowsByCommitAndBootOnly := by
  unfold Obligations.QueueGrowsByCommitAndBootOnly
  intro i s t h
  cases hpin : isPin i with
  | true =>
    obtain ⟨p15, p14, rfl⟩ := isPin_iff.mp hpin
    cases (exec_pinOp p15 p14 s).symm.trans h
    refine ⟨fun hgrows => .inl ?_, State.decoderPart_queue_le ((s.emit Output.silent).muxPart p15 p14) p15 p14⟩
    obtain hsame | ⟨hzero, hpulse, hstrobe, hpacket, -⟩ := s.presentPins_queue_cases p15 p14
    · rw [hsame] at hgrows
      exact absurd hgrows (Nat.lt_irrefl _)
    · exact ⟨hzero, hpulse, hstrobe, hpacket⟩
  | false =>
    cases hreset : isReset i s with
    | false =>
      obtain ⟨k, hk⟩ := exec_queue_eq_drop hpin hreset h
      simp only [hk, List.length_drop]
      exact ⟨by omega, by omega⟩
    | true =>
      obtain hempty | ⟨hsix, hboot⟩ := exec_reset_queue hreset h
      · simp [hempty]
      · exact ⟨fun _ => .inr hboot, by omega⟩

end Sys2Proof.Machine
end

section
/-! Proofs about whole packet frames (40_serial_decoder.md section 5): the round trip (rule R106), jitter (rule R108)
and recovery (rule R109). What is still to be presented of a frame says how far the decoder is in it. -/

namespace Sys2Proof.Machine

/-! ### Runs -/

theorem RunsTo.mono {is : List Instr} {s : State} {P Q : State → Prop} (h : RunsTo is s P) (hPQ : ∀ t, P t → Q t) :
    RunsTo is s Q := by
  intro ops hops
  obtain ⟨t, hrun, ht⟩ := h ops hops
  exact ⟨t, hrun, hPQ t ht⟩

/-- A run has one end. -/
theorem RunsTo.and {is : List Instr} {s : State} {P Q : State → Prop} (h : RunsTo is s P) (h' : RunsTo is s Q) :
    RunsTo is s fun t => P t ∧ Q t := by
  intro ops hops
  obtain ⟨t, hrun, ht⟩ := h ops hops
  obtain ⟨u, hrun', hu⟩ := h' ops hops
  cases hrun.symm.trans hrun'
  exact ⟨t, hrun, ht, hu⟩

/-- The first of some operations that complete answers the state the others run from. -/
theorem runOps_cons_eq_next {i : Instr} {inp : Inputs} {rest : List Timed} {s m : State}
    (h : runOps ((i, inp) :: rest) s = .next m) :
    ∃ t, exec i { s with inputs := inp } = .next t ∧ runOps rest t = .next m := by
  rw [runOps] at h
  split at h
  next t hexec => exact ⟨t, hexec, h⟩
  next => cases h
  next => cases h

theorem RunsTo.exec {i : Instr} {s : State} {P : State → Prop} (h : RunsTo [i] s P) (inp : Inputs) :
    ∃ t, exec i { s with inputs := inp } = .next t ∧ P t := by
  obtain ⟨t, hrun, ht⟩ := h [(i, inp)] rfl
  obtain ⟨u, hexec, hnil⟩ := runOps_cons_eq_next hrun
  cases hnil
  exact ⟨_, hexec, ht⟩

/-! ### A packet frame bit by bit (30_encoding.md rule R64, rule R78) -/

theorem flatMap_sendByte_take (p : Packet) {m : Nat} (hm : m ≤ 16) :
    (p.toList.take m).flatMap sendByte = (List.range (8 * m)).flatMap fun n => sendBit (packetBit p n) := by
  induction m with
  | zero => rfl
  | succ m ih =>
    have hbits : sendByte p[m] = (List.range 8).flatMap fun k => sendBit (packetBit p (8 * m + k)) := by
      have horder : sendByte p[m] = (List.range 8).flatMap fun k => sendBit (p[m].getLsbD (7 - k)) := rfl
      rw [horder]
      exact List.flatMap_congr fun k hk => by rw [packetBit_eq (by omega) (List.mem_range.mp hk)]
    rw [List.take_succ_eq_append_getElem (by simpa using hm), List.flatMap_append, List.flatMap_singleton,
      Vector.getElem_toList, ih (by omega), hbits, Nat.mul_succ, List.range_add, List.flatMap_append, List.flatMap_map]

/-- What is left of a packet frame when `n` of its bits are received and both-high comes next. -/
def framesFrom (p : Packet) (n : Nat) : List Instr :=
  (List.range' n (128 - n)).flatMap (fun k => sendBit (packetBit p k)) ++ [.pinIdle, .pinZero]

theorem framesFrom_of_lt (p : Packet) {n : Nat} (hn : n < 128) :
    framesFrom p n = .pinIdle :: dataEdge (packetBit p n) :: framesFrom p (n + 1) := by
  rw [framesFrom, show 128 - n = 128 - (n + 1) + 1 by omega, List.range'_succ]
  rfl

theorem sendPacket_eq_framesFrom (p : Packet) : sendPacket p = .pinPulse :: framesFrom p 0 := by
  have hbits := flatMap_sendByte_take p (m := 16) le_rfl
  rw [List.take_of_length_le (by simp)] at hbits
  rw [sendPacket, packetBody, hbits, framesFrom, List.range_eq_range']
  simp

/-! ### How far the decoder is in a frame -/

/-- The first `n` bits are received, and after the last one the last byte stands in `byte_acc`. -/
def State.Filled (p : Packet) (q : List Packet) (n : Nat) (s : State) : Prop :=
  s.Received p q n ∧ (n = 128 → s.byteAcc = p[15])

/-- What a whole frame leaves, from a queue `q`: the packet behind it if there was room, and every decoder element. -/
structure State.Delivered (p : Packet) (q : List Packet) (s : State) : Prop where
  queue : s.queue = if q.length < 64 then q ++ [p] else q
  pulseLock : s.pulseLock = true
  strobeLock : s.strobeLock = false
  packetLock : s.packetLock = false
  bitOffset : s.bitOffset = 0
  byteOffset : s.byteOffset = 0
  byteAcc : s.byteAcc = p[15]
  pktAcc : s.pktAcc = p

/-- With these presentations still to come of the frame of `p`, the decoder is where the frame has brought it; `q` is
the queue before the commit edge. -/
inductive State.Awaits (p : Packet) (q : List Packet) : List Instr → State → Prop
  | pulse {s : State} : s.queue = q → Awaits p q (sendPacket p) s
  | bothHigh {n : Nat} {s : State} : n ≤ 128 → s.Filled p q n → Awaits p q (framesFrom p n) s
  | dataEdge {n : Nat} {s : State} : n < 128 → s.Filled p q n → s.strobeLock = false →
      Awaits p q (dataEdge (packetBit p n) :: framesFrom p (n + 1)) s
  | commitEdge {s : State} : s.Filled p q 128 → s.strobeLock = false → Awaits p q [.pinZero] s
  | sent {s : State} : s.Delivered p q → Awaits p q [] s

section Frame

variable {p : Packet} {q : List Packet} {n : Nat} {s : State}

/-- Both-high keeps what has been received, and readies the decoder. -/
theorem State.Filled.runsTo_bothHigh (h : s.Filled p q n) :
    RunsTo [.pinIdle] s fun t => t.Filled p q n ∧ t.strobeLock = false := by
  obtain ⟨hreceived, hacc⟩ := h
  have hkeep : RunsTo [pinOp true true] s fun t => t.byteAcc = s.byteAcc := by
    refine RunsTo.pin fun inp => ?_
    rw [State.presentPins, State.decoderPart_bothHigh_eq]
    rfl
  refine (hreceived.runsTo_bothHigh.and hkeep).mono fun t ⟨⟨ht, hstrobe⟩, hsame⟩ => ?_
  exact ⟨⟨ht, fun hn => hsame.trans (hacc hn)⟩, hstrobe⟩

theorem State.consumeBit_byteAcc (b : Bool) (s : State) : (s.consumeBit b).byteAcc = s.byteAcc.shiftConcat b := by
  simp only [State.consumeBit, State.byteCommit]
  (repeat' split) <;> rfl

theorem State.Filled.runsTo_dataEdge (h : s.Filled p q n) (hn : n < 128) (hstrobe : s.strobeLock = false) :
    RunsTo [Machine.dataEdge (packetBit p n)] s (State.Filled p q (n + 1)) := by
  obtain ⟨hreceived, -⟩ := h
  have hshift : RunsTo [Machine.dataEdge (packetBit p n)] s fun t =>
      t.byteAcc = s.byteAcc.shiftConcat (packetBit p n) := by
    rw [dataEdge_eq_pinOp]
    refine RunsTo.pin fun inp => ?_
    have hmux := hreceived.before_decoderPart inp (!packetBit p n) (packetBit p n)
    rw [State.presentPins, State.decoderPart_consume _ (Bool.not_ne_self _) hmux.pulseLock hstrobe
      (hmux.packetLock_eq_false hn), State.consumeBit_byteAcc]
    rfl
  have hreceive := State.Ready.runsTo_dataEdge ⟨hreceived, hstrobe⟩ hn
  refine (hreceive.and hshift).mono fun t ⟨ht, hacc⟩ => ⟨ht, fun hlast => ?_⟩
  obtain rfl : n = 127 := by omega
  rw [hacc, hreceived.byte_complete hn rfl]

theorem State.Filled.runsTo_commitEdge (h : s.Filled p q 128) (hstrobe : s.strobeLock = false) :
    RunsTo [.pinZero] s (State.Delivered p q) := by
  obtain ⟨hreceived, hacc⟩ := h
  have hpkt : s.pktAcc = p := Vector.ext fun m hm => hreceived.pktAcc m hm hm
  rw [← pinOp_commitEdge]
  refine RunsTo.pin fun inp => ?_
  have hmux := hreceived.before_decoderPart inp true false
  rw [State.presentPins, State.decoderPart_commit _ hmux.pulseLock hstrobe hmux.packetLock]
  exact {
    queue := by rw [← hreceived.queue, ← hpkt]; rfl
    pulseLock := rfl
    strobeLock := hstrobe
    packetLock := rfl
    bitOffset := Fin.ext hreceived.bitOffset
    byteOffset := Fin.ext hreceived.byteOffset
    byteAcc := hacc rfl
    pktAcc := hpkt }

/-- After both-high the data edge of the next bit is to come, or after the last bit the commit edge. -/
theorem State.Filled.awaits_after_bothHigh (hn : n ≤ 128) (h : s.Filled p q n) (hstrobe : s.strobeLock = false) :
    s.Awaits p q (framesFrom p n).tail := by
  obtain hlt | rfl := hn.lt_or_eq
  · rw [framesFrom_of_lt p hlt]
    exact .dataEdge hlt h hstrobe
  · exact .commitEdge h hstrobe

theorem framesFrom_eq_cons (p : Packet) (hn : n ≤ 128) : framesFrom p n = .pinIdle :: (framesFrom p n).tail := by
  obtain hlt | rfl := hn.lt_or_eq
  · rw [framesFrom_of_lt p hlt]; rfl
  · rfl

theorem dataEdge_ne_pinIdle (b : Bool) : dataEdge b ≠ .pinIdle := by
  revert b
  decide

/-- The next presentation of the frame brings the decoder one further. -/
theorem State.Awaits.runsTo_next {l : List Instr} (h : s.Awaits p q l) {i : Instr} {rest : List Instr}
    (hl : l = i :: rest) : RunsTo [i] s (State.Awaits p q rest) := by
  cases h with
  | pulse hqueue =>
    rw [sendPacket_eq_framesFrom] at hl
    obtain ⟨rfl, rfl⟩ := List.cons.inj hl
    refine (s.runsTo_pulse p).mono fun t ht => .bothHigh (Nat.zero_le _) ⟨hqueue ▸ ht, fun hn => ?_⟩
    cases hn
  | bothHigh hn hfilled =>
    rw [framesFrom_eq_cons p hn] at hl
    obtain ⟨rfl, rfl⟩ := List.cons.inj hl
    exact hfilled.runsTo_bothHigh.mono fun t ⟨ht, hstrobe⟩ => ht.awaits_after_bothHigh hn hstrobe
  | dataEdge hn hfilled hstrobe =>
    obtain ⟨rfl, rfl⟩ := List.cons.inj hl
    exact (hfilled.runsTo_dataEdge hn hstrobe).mono fun t ht => .bothHigh hn ht
  | commitEdge hfilled hstrobe =>
    obtain ⟨rfl, rfl⟩ := List.cons.inj hl
    exact (hfilled.runsTo_commitEdge hstrobe).mono fun t ht => .sent ht
  | sent => cases hl

/-- Where the frame has a both-high next, one more of them changes nothing (rule R108). -/
theorem State.Awaits.runsTo_jitter {rest : List Instr} (h : s.Awaits p q (.pinIdle :: rest)) :
    RunsTo [.pinIdle] s (State.Awaits p q (.pinIdle :: rest)) := by
  generalize hl : Instr.pinIdle :: rest = l at h
  cases h with
  | pulse => rw [sendPacket_eq_framesFrom] at hl; cases hl
  | bothHigh hn hfilled => exact hfilled.runsTo_bothHigh.mono fun t ⟨ht, _⟩ => .bothHigh hn ht
  | dataEdge => exact absurd (List.cons.inj hl).1.symm (dataEdge_ne_pinIdle _)
  | commitEdge => cases hl
  | sent => cases hl

theorem State.Awaits.delivered (h : s.Awaits p q []) : s.Delivered p q := by
  generalize hl : [] = l at h
  cases h with
  | pulse => rw [sendPacket_eq_framesFrom] at hl; cases hl
  | bothHigh hn => rw [framesFrom_eq_cons p hn] at hl; cases hl
  | dataEdge => cases hl
  | commitEdge => cases hl
  | sent hdelivered => exact hdelivered

/-- The rest of the frame, presented without anything between. -/
theorem State.Awaits.runsTo {l : List Instr} (h : s.Awaits p q l) : RunsTo l s (State.Delivered p q) := by
  induction l generalizing s with
  | nil => exact .nil h.delivered
  | cons i rest ih => exact (h.runsTo_next rfl).append (js := rest) fun t ht => ih ht

theorem head?_dropJitter (is : List Instr) : (dropJitter is).head? = is.head? := by
  induction is with
  | nil => rfl
  | cons i rest ih =>
    rw [dropJitter]
    split
    next hjitter => rw [ih, hjitter.2, hjitter.1]; rfl
    next => rfl

/-- The rest of the frame, presented with more both-highs than it has. -/
theorem State.Awaits.runsTo_of_dropJitter {is : List Instr} (h : s.Awaits p q (dropJitter is)) :
    RunsTo is s (State.Delivered p q) := by
  induction is generalizing s with
  | nil => exact .nil h.delivered
  | cons i rest ih =>
    rw [dropJitter] at h
    split at h
    next hjitter =>
      obtain ⟨rfl, hnext⟩ := hjitter
      rw [← head?_dropJitter] at hnext
      obtain ⟨l, hl⟩ := List.head?_eq_some_iff.mp hnext
      rw [hl] at h ih
      exact h.runsTo_jitter.append (js := rest) fun t ht => ih ht
    next => exact (h.runsTo_next rfl).append (js := rest) fun t ht => ih ht

end Frame

/-- Settles O25, by induction on the presentations. -/
theorem jitterDoesNotDisturbPacket : Obligations.JitterDoesNotDisturbPacket := by
  unfold Obligations.JitterDoesNotDisturbPacket
  intro p ops s hframe
  have hawaits : s.Awaits p s.queue (dropJitter (ops.map Prod.fst)) := hframe ▸ .pulse rfl
  obtain ⟨t, hrun, ht⟩ := hawaits.runsTo_of_dropJitter ops rfl
  exact ⟨t, hrun, ht.queue, ht.pulseLock, ht.strobeLock, ht.packetLock, ht.bitOffset, ht.byteOffset, ht.byteAcc,
    ht.pktAcc⟩

/-! ### The round trip (rule R106) -/

theorem isPin_of_mem_sendBit {b : Bool} {i : Instr} (h : i ∈ sendBit b) : isPin i = true := by
  revert i b
  simp [sendBit, dataEdge, isPin]

theorem isPin_of_mem_sendPacket {p : Packet} {i : Instr} (h : i ∈ sendPacket p) : isPin i = true := by
  rw [sendPacket_eq_framesFrom, framesFrom, List.mem_cons, List.mem_append, List.mem_flatMap] at h
  obtain rfl | ⟨k, -, hbit⟩ | hend := h
  · rfl
  · exact isPin_of_mem_sendBit hbit
  · obtain rfl | rfl : i = .pinIdle ∨ i = .pinZero := by simpa using hend
    all_goals rfl

theorem State.SameRegisterBank.trans {s t u : State} (h : s.SameRegisterBank t) (h' : t.SameRegisterBank u) :
    s.SameRegisterBank u := by
  simp_all [State.SameRegisterBank]

/-- Presentations write no register (rule R107). -/
theorem State.runsTo_pins {is : List Instr} (hpins : ∀ i ∈ is, isPin i = true) (s : State) :
    RunsTo is s s.SameRegisterBank := by
  induction is generalizing s with
  | nil => exact .nil (by simp [State.SameRegisterBank])
  | cons i rest ih =>
    obtain ⟨hpin, hrest⟩ := List.forall_mem_cons.mp hpins
    obtain ⟨p15, p14, rfl⟩ := isPin_iff.mp hpin
    have hfirst : RunsTo [pinOp p15 p14] s s.SameRegisterBank := .pin fun inp => State.presentPins_sameRegisterBank ..
    exact hfirst.append (js := rest) fun t ht => (ih hrest t).mono fun u hu => ht.trans hu

/-- Settles O23: a frame without jitter, and its presentations write no register. -/
theorem sentPacketIsEnqueued : Obligations.SentPacketIsEnqueued := by
  unfold Obligations.SentPacketIsEnqueued
  intro p ops s hops
  have hframe := (State.Awaits.pulse (p := p) (s := s) rfl).runsTo
  obtain ⟨t, hrun, ht, hbank⟩ := hframe.and (s.runsTo_pins fun _ => isPin_of_mem_sendPacket) ops hops
  exact ⟨t, hrun, ht.queue, ht.pulseLock, ht.packetLock, ht.pktAcc, hbank⟩

/-- Settles O26: the violation locks the decoder, the noise leaves it locked, and the frame starts with a Pulse. -/
theorem recoveryAfterViolation : Obligations.RecoveryAfterViolation := by
  unfold Obligations.RecoveryAfterViolation
  intro p b inp noise ops s hpulse hstrobe hroom hnoise hops
  obtain ⟨v, hexec, hlock, hv⟩ :
      ∃ v, exec (dataEdge b) { s with inputs := inp } = .next v ∧ v.pulseLock = true ∧ v.queue = s.queue :=
    ⟨_, exec_dataEdge_violation b hpulse hstrobe, rfl, rfl⟩
  obtain ⟨t, hrun, -, ht⟩ := runOps_noise hlock hnoise
  obtain ⟨u, hrun', hu, -⟩ := t.runsTo_sendPacket p ops hops
  refine ⟨u, ?_, ?_⟩
  · rw [List.cons_append, runOps_cons_of_next hexec, runOps_append hrun, hrun']
  · rw [hu, State.enqueue_queue, ht, hv, if_pos hroom]

/-- Settles O31: the packet is all the queue holds, so the status read latches it. -/
theorem sentPacketIsReadBack : Obligations.SentPacketIsReadBack := by
  unfold Obligations.SentPacketIsReadBack
  intro p idx ops s hempty hops
  refine RunsTo.append (s.runsTo_sendPacket p) (fun t ht => ?_) ops hops
  obtain ⟨hqueue, -, -⟩ := ht
  rw [State.enqueue_queue, hempty] at hqueue
  refine RunsTo.append (is := [.rdStatus]) (State.runsTo_rdStatus hqueue) fun u ⟨_, hwindow, hu⟩ => ?_
  refine RunsTo.single fun inp => ⟨_, rfl, ?_, hu⟩
  rw [← hwindow]
  exact (Vector.getElem?_eq_getElem idx.isLt).symm

/-! ### The round trip with other operations interleaved (rule R106, rule R107) -/

section Interleaved

variable {p : Packet} {q : List Packet} {n : Nat} {s t : State}

theorem State.Received.of_sameDecoder (h : s.Received p q n) (hsame : s.SameDecoder t) : t.Received p t.queue n := by
  obtain ⟨hpulse, -, hpacket, hbit, hbyte, hacc, hpkt⟩ := hsame
  exact {
    pulseLock := hpulse.trans h.pulseLock
    packetLock := hpacket.trans h.packetLock
    bitOffset := by rw [hbit, h.bitOffset]
    byteOffset := by rw [hbyte, h.byteOffset]
    byteAcc := by rw [hacc]; exact h.byteAcc
    pktAcc := by rw [hpkt]; exact h.pktAcc
    queue := rfl }

theorem State.Filled.of_sameDecoder (h : s.Filled p q n) (hsame : s.SameDecoder t) : t.Filled p t.queue n := by
  obtain ⟨hreceived, hlast⟩ := h
  refine ⟨hreceived.of_sameDecoder hsame, fun hn => ?_⟩
  obtain ⟨-, -, -, -, -, hacc, -⟩ := hsame
  exact hacc.trans (hlast hn)

/-- What leaves the decoder alone leaves a frame that is not over where it was, whatever it does to the queue. -/
theorem State.Awaits.of_sameDecoder {l : List Instr} (h : s.Awaits p q l) (hl : l ≠ []) (hsame : s.SameDecoder t) :
    t.Awaits p t.queue l := by
  have hstrobe : t.strobeLock = s.strobeLock := hsame.2.1
  cases h with
  | pulse => exact .pulse rfl
  | bothHigh hn hfilled => exact .bothHigh hn (hfilled.of_sameDecoder hsame)
  | dataEdge hn hfilled hready => exact .dataEdge hn (hfilled.of_sameDecoder hsame) (hstrobe.trans hready)
  | commitEdge hfilled hready => exact .commitEdge (hfilled.of_sameDecoder hsame) (hstrobe.trans hready)
  | sent => exact absurd rfl hl

/-- Up to the commit edge the queue is untouched. -/
theorem State.Awaits.queue_eq {l : List Instr} (h : s.Awaits p q l) (hl : l ≠ []) : s.queue = q := by
  cases h with
  | pulse hqueue => exact hqueue
  | bothHigh _ hfilled => exact hfilled.1.queue
  | dataEdge _ hfilled => exact hfilled.1.queue
  | commitEdge hfilled => exact hfilled.1.queue
  | sent => exact absurd rfl hl

end Interleaved

/-- With these presentations and the commit edge to come, and other operations among them, the frame is received, and
the queue is only popped. -/
theorem State.Awaits.interleaved {p : Packet} {l : List Instr} {ops : List Timed} {s m : State}
    (h : s.Awaits p s.queue (l ++ [.pinZero])) (hpins : (ops.map Prod.fst).filter isPin = l)
    (hreset : resetFree ops s = true) (hrun : runOps ops s = .next m) :
    (∃ k, m.queue = s.queue.drop k) ∧ m.Awaits p m.queue [.pinZero] := by
  induction ops generalizing s l with
  | nil =>
    cases hrun
    subst hpins
    exact ⟨⟨0, rfl⟩, h⟩
  | cons o rest ih =>
    obtain ⟨i, inp⟩ := o
    obtain ⟨t, hexec, hrest⟩ := runOps_cons_eq_next hrun
    rw [resetFree_cons_of_next hexec, Bool.and_eq_true, Bool.not_eq_true'] at hreset
    obtain ⟨hi, hreset⟩ := hreset
    cases hpin : isPin i with
    | true =>
      rw [List.map_cons, List.filter_cons_of_pos hpin] at hpins
      subst hpins
      obtain ⟨u, hexec', hu⟩ := (h.runsTo_next rfl).exec inp
      cases hexec.symm.trans hexec'
      have hqueue := hu.queue_eq (by simp)
      rw [← hqueue] at hu ⊢
      exact ih hu rfl hreset hrest
    | false =>
      rw [List.map_cons, List.filter_cons_of_neg (by simp [hpin])] at hpins
      have hsame : s.SameDecoder t := exec_keeps_decoder (s := { s with inputs := inp }) hpin hi hexec
      obtain ⟨k, hk⟩ := exec_queue_eq_drop (s := { s with inputs := inp }) hpin hi hexec
      obtain ⟨⟨k', hk'⟩, hm⟩ := ih (h.of_sameDecoder (by simp) hsame) hpins hreset hrest
      exact ⟨⟨k + k', by rw [hk', hk, List.drop_drop]⟩, hm⟩

/-- Settles O24: the commit edge finds the frame received, with a queue that has room. -/
theorem interleavedPacketIsEnqueued : Obligations.InterleavedPacketIsEnqueued := by
  unfold Obligations.InterleavedPacketIsEnqueued
  intro p ops s m hpins hreset hrun hroom
  obtain ⟨hpopped, hm⟩ := State.Awaits.interleaved (.pulse rfl) hpins hreset hrun
  obtain ⟨t, hexec, ht⟩ := (hm.runsTo_next rfl).exec m.inputs
  exact ⟨hpopped, t, hexec, by rw [ht.delivered.queue, if_pos hroom]⟩

end Sys2Proof.Machine
end

section
/-! Proofs about the joypad mux: the poll (42_joypad_mux.md rule R130), one advance per release, and round-robin polling
(rule R132). -/

namespace Sys2Proof.Machine

/-- Settles O34: the arm of `exec`. -/
theorem joypollReturnsSelectedRegister : Obligations.JoypollReturnsSelectedRegister := by
  unfold Obligations.JoypollReturnsSelectedRegister
  exact fun _ => rfl

/-! ### Presentations other than the release pattern -/

/-- Both-high takes `joy_lock`, and advances the selection if it was clear; every other presentation but the release
pattern leaves both alone. -/
theorem exec_pin_not_release {i : Instr} (hpin : isPin i = true) (hrelease : i ≠ releaseOp) (inp : Inputs) (s : State) :
    ∃ t, exec i { s with inputs := inp } = .next t ∧ t.mltMode = s.mltMode ∧
      t.joyLock = (s.joyLock || decide (i = .pinIdle)) ∧
      t.joyId = if s.joyLock = false ∧ i = .pinIdle then nextSlot s.joyId s.mltMode else s.joyId := by
  obtain ⟨p15, p14, rfl⟩ := isPin_iff.mp hpin
  refine ⟨_, exec_pinOp p15 p14 _, State.presentPins_mltMode _ p15 p14, ?_⟩
  rw [State.presentPins_joyLock, State.presentPins_joyId]
  cases hhigh : p15 && p14 with
  | true =>
    obtain ⟨rfl, rfl⟩ : p15 = true ∧ p14 = true := by simpa using hhigh
    have hidle : pinOp true true = .pinIdle := by decide
    simp [hidle]
  | false =>
    have hpattern : (p15, p14) ≠ releasePattern := by
      intro hpattern
      exact hrelease (by rw [releaseOp, ← hpattern])
    have hidle : pinOp p15 p14 ≠ .pinIdle := by
      revert hhigh
      cases p15 <;> cases p14 <;> decide
    simp [State.joyLockAfter_notBothHigh _ hhigh, State.advances_notBothHigh _ hhigh, hpattern, hidle]

/-- Settles O35, by induction on the presentations: after the first both-high `joy_lock` is set. -/
theorem oneAdvancePerRelease : Obligations.OneAdvancePerRelease := by
  unfold Obligations.OneAdvancePerRelease
  intro ops s hops
  induction ops generalizing s with
  | nil => exact ⟨s, rfl, by simp⟩
  | cons o rest ih =>
    obtain ⟨i, inp⟩ := o
    obtain ⟨⟨hpin, hrelease⟩, hrest⟩ := List.forall_mem_cons.mp hops
    obtain ⟨t, hexec, hmode, hlock, hid⟩ := exec_pin_not_release hpin hrelease inp s
    obtain ⟨u, hrun, hu⟩ := ih t hrest
    refine ⟨u, (runOps_cons_of_next hexec).trans hrun, ?_⟩
    rw [hu, hmode, hlock, hid]
    by_cases hidle : i = .pinIdle
    · simp [hidle]
    · have hne : Instr.pinIdle ≠ i := Ne.symm hidle
      simp only [hidle, hne, List.map_cons, List.mem_cons, false_or, and_false, decide_false, Bool.or_false, if_false]

/-! ### Polling -/

/-- The release pattern clears `joy_lock` and keeps the selection (rule R127). -/
theorem State.runsTo_release (s : State) :
    RunsTo [releaseOp] s fun t => t.joyLock = false ∧ t.joyId = s.joyId ∧ t.mltMode = s.mltMode := by
  have hhigh : (releasePattern.1 && releasePattern.2) = false := by
    unfold releasePattern
    cases Config.joyRelease <;> rfl
  refine RunsTo.pin fun inp => ?_
  simp [State.joyLockAfter_notBothHigh _ hhigh, State.advances_notBothHigh _ hhigh]

/-- Both-high with `joy_lock` clear advances the selection (rule R126). -/
theorem State.runsTo_advance {s : State} (h : s.joyLock = false) :
    RunsTo [.pinIdle] s fun t => t.joyId = nextSlot s.joyId s.mltMode ∧ t.mltMode = s.mltMode :=
  RunsTo.pin (p15 := true) (p14 := true) fun inp => by simp [h]

theorem nextSlot_toNat : ∀ id m : BitVec 2, (nextSlot id m).toNat = (id.toNat + 1) % slotCount m := by decide

theorem State.runsTo_polling (n : Nat) {s : State} (h : s.SelectionInRange) :
    RunsTo (List.replicate n [releaseOp, .pinIdle]).flatten s fun t =>
      t.joyId.toNat = (s.joyId.toNat + n) % slotCount s.mltMode := by
  induction n generalizing s with
  | zero => exact .nil (Nat.mod_eq_of_lt h).symm
  | succ n ih =>
    rw [List.replicate_succ, List.flatten_cons]
    have hpoll : RunsTo ([releaseOp] ++ [.pinIdle]) s fun t =>
        t.joyId = nextSlot s.joyId s.mltMode ∧ t.mltMode = s.mltMode := by
      refine s.runsTo_release.append fun t ⟨hlock, hid, hmode⟩ => ?_
      rw [← hid, ← hmode]
      exact State.runsTo_advance hlock
    refine hpoll.append fun t ⟨hid, hmode⟩ => (ih ?_).mono fun u hu => ?_
    · rw [State.SelectionInRange, hid, hmode]
      exact nextSlot_lt s.joyId s.mltMode
    · rw [hu, hid, hmode, nextSlot_toNat, Nat.mod_add_mod, Nat.add_right_comm, Nat.add_assoc]

/-- Settles O36, by induction on the repetitions. -/
theorem roundRobinPolling : Obligations.RoundRobinPolling := by
  unfold Obligations.RoundRobinPolling
  exact fun n ops _ h hops => State.runsTo_polling n h ops hops

end Sys2Proof.Machine
end

section
/-! Proofs about the bus and the facade: boot packets (41_packet_fifo.md rule R115), the control register
(44_bus_registers.md rule R159, rule R163), the register map and its frame (20_memory.md rule R41, rule R56), and the
resets (70_reset_and_hazards.md rule R201, rule R202). -/

namespace Sys2Proof.Machine

/-! ### Boot packets -/

/-- A sum of bytes is their sum as numbers modulo 256. -/
theorem toNat_foldl_add (l : List Byte) (b : Byte) :
    (l.foldl (· + ·) b).toNat = (b.toNat + (l.map BitVec.toNat).sum) % 256 := by
  induction l generalizing b with
  | nil => simpa using (Nat.mod_eq_of_lt b.isLt).symm
  | cons v rest ih =>
    rw [List.foldl_cons, ih, BitVec.toNat_add, Nat.mod_add_mod, List.map_cons, List.sum_cons, Nat.add_assoc]

/-- A boot packet in its three parts (30_encoding.md rule R73). -/
theorem bootPacket_getElem_zero (hdr : Header) (i : Fin 6) : (bootPacket hdr i)[0] = bootCommand i := by
  refine (Vector.getElem_append_left (xs := #v[bootCommand i, checksum (bootPayload hdr i)]) (i := 0)
    (by decide)).trans ?_
  simp

theorem bootPacket_getElem_one (hdr : Header) (i : Fin 6) :
    (bootPacket hdr i)[1] = checksum (bootPayload hdr i) := by
  refine (Vector.getElem_append_left (xs := #v[bootCommand i, checksum (bootPayload hdr i)]) (i := 1)
    (by decide)).trans ?_
  simp

theorem bootPacket_getElem_payload (hdr : Header) (i : Fin 6) (n : Fin 14) :
    (bootPacket hdr i)[2 + n.val] = (bootPayload hdr i)[n.val] := by
  refine (Vector.getElem_append_right (xs := #v[bootCommand i, checksum (bootPayload hdr i)])
    (by omega) (by omega)).trans ?_
  simp

/-- Settles O33. -/
theorem bootPacketChecksum : Obligations.BootPacketChecksum := by
  unfold Obligations.BootPacketChecksum
  intro hdr i
  refine ⟨?command, fun n => ?payload, ?sum⟩
  case command =>
    rw [bootPacket_getElem_zero]
    revert i
    decide
  case payload =>
    rw [bootPacket_getElem_payload]
    simp [bootPayload]
  case sum =>
    have hbytes : (bootPayload hdr i).toList.map BitVec.toNat =
        (List.range 14).map fun n => ((bootPacket hdr i)[2 + n]?.getD 0).toNat := by
      refine List.ext_getElem (by simp) fun n hn _ => ?_
      have hlt : n < 14 := by simpa using hn
      have hbyte := bootPacket_getElem_payload hdr i ⟨n, hlt⟩
      simp [← hbyte, show 2 + n < 16 by omega]
    rw [← hbytes, bootPacket_getElem_one, checksum, toNat_foldl_add, BitVec.toNat_zero, Nat.zero_add]

/-! ### The control register -/

/-- Settles O38. -/
theorem controlReadback : Obligations.ControlReadback := by
  unfold Obligations.ControlReadback
  exact fun _ => rfl

/-- Settles O42: the enable bit does not rise. -/
theorem controlWriteWithoutTransition : Obligations.ControlWriteWithoutTransition := by
  unfold Obligations.ControlWriteWithoutTransition
  intro data s henable
  have hrise : enableRises s.ctrl data = false := by
    obtain h | h := henable <;> simp only [enableRises, ctrlEnable, h, Bool.not_true, Bool.false_and, Bool.and_false]
  exact ⟨_, rfl, execWrCtrl_of_not_enableRises hrise⟩

/-- Settles O43: the enable bit rises. -/
theorem enableTransition : Obligations.EnableTransition := by
  unfold Obligations.EnableTransition
  intro data s hctrl hdata
  have hrise : enableRises s.ctrl data = true := by
    rw [enableRises, ctrlEnable, ctrlEnable, hctrl, hdata]
    rfl
  exact ⟨_, rfl, execWrCtrl_of_enableRises hrise⟩

/-! ### The register map -/

/-- Settles O39: the decoder and the map make the same comparisons. -/
theorem readsFollowRegisterMap : Obligations.ReadsFollowRegisterMap := by
  unfold Obligations.ReadsFollowRegisterMap
  intro a s
  simp only [readOp, decode, decodeRead, State.busByte]
  split_ifs <;> exact ⟨_, rfl, rfl⟩

/-- A read of the bus sees five values, each at its own addresses only. -/
theorem State.busByte_congr {s t : State} {a : Addr} (hly : t.inputs.ly = s.inputs.ly)
    (hstatus : a = 0x6002#16 → t.queue.isEmpty = s.queue.isEmpty) (hctrl : a = 0x6003#16 → t.ctrl = s.ctrl)
    (hwindow : a &&& 0xFFF0#16 = 0x7000#16 → t.pktWindow = s.pktWindow)
    (hport : a = 0x7800#16 → t.vram[t.vramCursor] = s.vram[s.vramCursor]) : t.busByte a = s.busByte a := by
  unfold State.busByte
  split_ifs with h₁ h₂ h₃ h₄ h₅
  · exact hly
  · rw [State.popAndLatch_nonEmpty, State.popAndLatch_nonEmpty, hstatus h₂]
  · rw [hctrl h₃]
  · rw [hwindow h₄]
  · exact hport h₅
  · rfl

theorem State.busByte_emit (o : Output) (s : State) (a : Addr) : (s.emit o).busByte a = s.busByte a :=
  State.busByte_congr rfl (fun _ => rfl) (fun _ => rfl) (fun _ => rfl) fun _ => rfl

/-- Of the values behind the bus a presentation changes at most the queue, and that in a commit edge only. -/
theorem State.busByte_presentPins {p15 p14 : Bool} {s : State} {a : Addr}
    (h : a = 0x6002#16 → (p15 && !p14) = false) : (s.presentPins p15 p14).busByte a = s.busByte a := by
  refine State.busByte_congr (by simp) (fun ha => ?_) (by simp) (by simp) fun _ => by simp
  have hqueue : (s.presentPins p15 p14).queue = s.queue := State.decoderPart_queue_of_not_commit _ (h ha)
  rw [hqueue]

theorem State.busByte_popAndLatch {s : State} {a : Addr} (hstatus : a ≠ 0x6002#16)
    (hwindow : a &&& 0xFFF0#16 ≠ 0x7000#16) : s.popAndLatch.2.busByte a = s.busByte a := by
  cases hq : s.queue with
  | nil => rw [State.popAndLatch_empty s hq]
  | cons p rest =>
    rw [State.popAndLatch_front s hq]
    exact State.busByte_congr rfl (fun ha => absurd ha hstatus) (fun _ => rfl) (fun ha => absurd ha hwindow)
      fun _ => rfl

/-- Settles O45, by the values that each operation writes. -/
theorem busBytesOutsideFootprintUnchanged : Obligations.BusBytesOutsideFootprintUnchanged := by
  unfold Obligations.BusBytesOutsideFootprintUnchanged
  intro i s t a h hreset hfoot
  cases i with
  | pinPulse | pinOne | pinIdle =>
    cases h
    exact State.busByte_presentPins fun _ => rfl
  | pinZero =>
    cases h
    refine State.busByte_presentPins fun ha => ?_
    simp [busFootprint, ha] at hfoot
  | rdLy | rdCtrl | rdPkt | rdOther | wrOther | joypoll | run =>
    cases h
    exact s.busByte_emit _ a
  | wrJoy =>
    cases h
    exact State.busByte_congr rfl (fun _ => rfl) (fun _ => rfl) (fun _ => rfl) fun _ => rfl
  | rdStatus =>
    cases h
    obtain ⟨hstatus, hwindow⟩ : a ≠ 0x6002#16 ∧ a &&& 0xFFF0#16 ≠ 0x7000#16 := by simpa [busFootprint] using hfoot
    rw [State.busByte_emit, State.busByte_popAndLatch hstatus hwindow]
  | rdVram =>
    cases h
    have hport : a ≠ 0x7800#16 := by simpa [busFootprint] using hfoot
    exact State.busByte_congr rfl (fun _ => rfl) (fun _ => rfl) (fun _ => rfl) fun ha => absurd ha hport
  | wrCtrl data =>
    cases (execWrCtrl_of_not_enableRises hreset).symm.trans h
    have hctrl : a ≠ 0x6003#16 := by simpa [busFootprint] using hfoot
    exact State.busByte_congr rfl (fun _ => rfl) (fun ha => absurd ha hctrl) (fun _ => rfl) fun _ => rfl
  | rowsel row =>
    cases eq_of_execRowsel_next h
    have hport : a ≠ 0x7800#16 := by simpa [busFootprint] using hfoot
    exact State.busByte_congr rfl (fun _ => rfl) (fun _ => rfl) (fun _ => rfl) fun ha => absurd ha hport
  | reset | power => simp [isReset] at hreset

/-! ### The resets -/

/-- Settles O47: the arms of `exec`. -/
theorem resetAndPower : Obligations.ResetAndPower := by
  unfold Obligations.ResetAndPower
  exact ⟨fun _ => rfl, fun _ => rfl⟩

/-- Settles O48. -/
theorem resetValues : Obligations.ResetValues := by
  unfold Obligations.ResetValues
  exact ⟨rfl, rfl, rfl, rfl, rfl, rfl, fun k => Vector.getElem_replicate k.isLt, rfl, rfl, rfl,
    fun k => Vector.getElem_replicate k.isLt, fun k => Vector.getElem_replicate k.isLt,
    fun k => Vector.getElem_replicate k.isLt, rfl, rfl, rfl, rfl⟩

/-- Settles O50: the arm of `exec`. -/
theorem runWritesNothing : Obligations.RunWritesNothing := by
  unfold Obligations.RunWritesNothing
  exact fun _ => rfl

theorem ctrlReadValue_zero : ctrlReadValue 0x00#8 = 0x00#8 := by
  unfold ctrlReadValue
  cases Config.ctrlReadback <;> rfl

/-- After the internal reset only the line counter can read as anything but 0x00 (rule R202). -/
theorem State.busByte_internalReset {s : State} {a : Addr} (h : a ≠ 0x6000#16) :
    s.internalReset.busByte a = 0x00#8 := by
  rw [State.busByte, if_neg h]
  split_ifs
  · rw [State.popAndLatch_nonEmpty]
    rfl
  · exact ctrlReadValue_zero
  · exact Vector.getElem_replicate _
  · exact Vector.getElem_replicate _
  · rfl

theorem ctrlEnable_zero : ctrlEnable 0x00#8 = false := by decide

/-- Settles O49. -/
theorem viewAfterReset : Obligations.ViewAfterReset := by
  unfold Obligations.ViewAfterReset
  rintro i s (rfl | rfl)
  all_goals
    refine ⟨_, rfl, fun a ha => ?_, rfl, Vector.getElem_replicate _, ctrlEnable_zero⟩
    rw [State.busByte_emit, State.busByte_internalReset ha]

end Sys2Proof.Machine
end

section
/-! Proofs about the renderer: the row select (43_renderer.md rule R141), where the pixels come from, and the closed
form of the buffer (rule R145). -/

namespace Sys2Proof.Machine

/-- Settles O51. -/
theorem rowSelectResult : Obligations.RowSelectResult := by
  unfold Obligations.RowSelectResult
  exact fun _ s hrow => exec_rowsel_of_lt hrow s

/-- A row lies in the frame exactly if all its scanlines do. -/
theorem firstLine_add_lt_iff (row : BitVec 5) (y : Fin 8) : firstLine row + y.val < frameHeight ↔ row.toNat < 18 := by
  simp only [firstLine, stripHeight, frameHeight]
  omega

/-- Settles O54: rows below 18 lie in the frame, the others below it. -/
theorem stripPixelSource : Obligations.StripPixelSource := by
  unfold Obligations.StripPixelSource
  intro row s x y
  refine ⟨fun hrow => ?_, fun hrow => ⟨?_, ?_⟩⟩
  · exact if_pos ((firstLine_add_lt_iff row y).mpr hrow)
  · rw [State.stripPixel, if_neg ((firstLine_add_lt_iff row y).not.mpr (Nat.not_lt.mpr hrow)), Nat.add_assoc]
  · have hbelow : ¬ firstLine row < frameHeight := (firstLine_add_lt_iff row 0).not.mpr (Nat.not_lt.mpr hrow)
    rw [State.selectRow_draws, drawsOfRow, if_neg hbelow]

/-- Settles O52: the bit in question is bit `7 - c` of buffer byte `16*t + 2*y + p`, and `renderStrip_bufferBit` says
which pixel it comes from. -/
theorem rowBufferClosedForm : Obligations.RowBufferClosedForm := by
  unfold Obligations.RowBufferClosedForm
  intro row s hrow
  refine ⟨_, exec_rowsel_of_lt hrow s, fun t y p c => ?_⟩
  have hbit := renderStrip_bufferBit (fun x y => colourIndex (s.stripPixel row x y))
    ⟨16 * t.val + 2 * y.val + p.val, by omega⟩ ⟨7 - c.val, by omega⟩
  have hcolumn : bitColumn ⟨16 * t.val + 2 * y.val + p.val, by omega⟩ ⟨7 - c.val, by omega⟩ =
      ⟨8 * t.val + c.val, by omega⟩ := by
    simp only [bitColumn, Fin.mk.injEq]
    omega
  have hline : byteLine ⟨16 * t.val + 2 * y.val + p.val, by omega⟩ = y := by
    simp only [byteLine, Fin.ext_iff]
    omega
  have hplane : (16 * t.val + 2 * y.val + p.val) % 2 = p.val := by omega
  rw [hcolumn, hline, hplane] at hbit
  exact hbit

/-- The byte of the closed form ORs in one bit for each of its eight columns, and bit `j` comes from column `7 - j`
(rule R145). -/
theorem planeByte_getLsbD (index : Fin 160 → Fin 8 → BitVec 2) (k : Fin 320) (j : Fin 8) :
    (planeByte index k).getLsbD j.val = (index (bitColumn k j) (byteLine k)).getLsbD (k.val % 2) := by
  have hplace (bits : Fin 8 → Bool) (v : Byte) (c : Fin 8) :
      (v ||| (BitVec.ofBool (bits c)).setWidth 8 <<< (7 - c.val)).getLsbD j.val =
        (v.getLsbD j.val || (decide (j.val = 7 - c.val) && bits c)) := by
    have hbit := planeBit_getLsbD (bits c) ⟨c.val, by omega⟩ j
    simp only [planeBit, Nat.mod_eq_of_lt c.isLt] at hbit
    rw [BitVec.getLsbD_or, hbit]
  refine (foldl_eq_or_any (bit := fun v : Byte => v.getLsbD j.val) (hplace _) (List.finRange 8) 0x00#8).trans ?_
  rw [Bool.eq_iff_iff]
  simp only [BitVec.getLsbD_zero, Bool.false_or, List.any_eq_true, List.mem_finRange, true_and, Bool.and_eq_true,
    decide_eq_true_eq]
  constructor
  · rintro ⟨c, hc, hset⟩
    have hcolumn : c.val = 7 - j.val := by omega
    simp only [hcolumn] at hset
    exact hset
  · intro hset
    have hcolumn : j.val = 7 - (7 - j.val) := by omega
    exact ⟨⟨7 - j.val, by omega⟩, hcolumn, hset⟩

/-- Settles O53: both buffers hold in every bit that of the same colour index. -/
theorem loopEqualsClosedForm : Obligations.LoopEqualsClosedForm := by
  unfold Obligations.LoopEqualsClosedForm
  intro index
  refine Vector.ext fun k hk => BitVec.eq_of_getLsbD_eq fun j hj => ?_
  rw [renderClosed, Vector.getElem_ofFn, planeByte_getLsbD index ⟨k, hk⟩ ⟨j, hj⟩]
  exact renderStrip_bufferBit index ⟨k, hk⟩ ⟨j, hj⟩

end Sys2Proof.Machine
end
